-- ==== Sys2Proof/Word.lean ====
section
/-! DEFINITION. The widths of the spec's values (00_scope.md R12): all unsigned, no arithmetic beyond bit operations. -/

namespace Sys2Proof

/-- One byte: a configuration register, a register of the block, one lane of a transaction. -/
abbrev Byte := BitVec 8

/-- A host I/O port number (20_memory.md R60). -/
abbrev Port := BitVec 16

/-- The value of a 16-bit transaction. -/
abbrev Word := BitVec 16

/-- The value of a 32-bit transaction. -/
abbrev Dword := BitVec 32

/-- The set of sources that hold one IRQ line (10_state.md R29). -/
abbrev HoldMask := BitVec 64

/-- A device handle `h` (10_state.md R24): an opaque name for a device's read port, write port and context.
DESIGN CHOICE (log 2): the spec gives it no width; 32 bits, so that a request can carry it. -/
abbrev Handle := BitVec 32

end Sys2Proof
end

