-- ==== Sys2Proof/Syntax.lean ====
section
/-! DEFINITION. The operations of the block: one constructor of `Instr` per row of spec/opcode_table.json. The 29 host
transaction rows (format IOX, 30_encoding.md R92) come first, then the 14 sideband rows (format CMD, R105). -/

namespace Sys2Proof

/-- The two formats of 30_encoding.md: a host I/O transaction (R90) or a sideband operation (R105). -/
inductive Format where
  | iox
  | cmd
  deriving DecidableEq, Repr

/-- Direction, width and, for a write, the value of a host transaction (30_encoding.md R90). -/
inductive Access where
  | rd8
  | rd16
  | rd32
  | wr8 (v : Byte)
  | wr16 (v : Word)
  | wr32 (v : Dword)
  deriving DecidableEq, Repr

/-- One operation (00_scope.md R7). A row's `when` column is no part of it: the meaning tests it. -/
inductive Instr where
  /-- `ELCR.RD`: byte read of port 0x04D0 + reg. -/
  | elcrRd (reg : BitVec 1)
  /-- `ELCR.WR`: byte write of port 0x04D0 + reg. -/
  | elcrWr (reg : BitVec 1) (val : Byte)
  /-- `T1.ADDR.RD`: 32-bit read of 0x0CF8. -/
  | t1AddrRd
  /-- `T1.ADDR.WR`: 32-bit write of 0x0CF8. -/
  | t1AddrWr (val : Dword)
  /-- `T2.CSE.RD`: byte read of 0x0CF8. -/
  | t2CseRd
  /-- `T2.CSE.WR`: byte write of 0x0CF8. -/
  | t2CseWr (val : Byte)
  /-- `TRC.RD8`: byte read of 0x0CF9. -/
  | trcRd8
  /-- `TRC.RD16`: 16-bit read of 0x0CF9. -/
  | trcRd16
  /-- `TRC.RD32`: 32-bit read of 0x0CF9. -/
  | trcRd32
  /-- `TRC.WR8`: byte write of 0x0CF9. -/
  | trcWr8 (val : Byte)
  /-- `TRC.WR16`: 16-bit write of 0x0CF9. -/
  | trcWr16 (val : Word)
  /-- `TRC.WR32`: 32-bit write of 0x0CF9. -/
  | trcWr32 (val : Dword)
  /-- `T2.BUS.RD`: byte read of 0x0CFA. -/
  | t2BusRd
  /-- `T2.BUS.WR`: byte write of 0x0CFA. -/
  | t2BusWr (val : Byte)
  /-- `PMC.RD`: byte read of 0x0CFB. -/
  | pmcRd
  /-- `PMC.WR`: byte write of 0x0CFB. -/
  | pmcWr (val : Byte)
  /-- `T1.DATA.RD8`: byte read of 0x0CFC + lane. -/
  | t1DataRd8 (lane : BitVec 2)
  /-- `T1.DATA.RD16`: 16-bit read of 0x0CFC + lane. -/
  | t1DataRd16 (lane : BitVec 2)
  /-- `T1.DATA.RD32`: 32-bit read of 0x0CFC + lane. -/
  | t1DataRd32 (lane : BitVec 2)
  /-- `T1.DATA.WR8`: byte write of 0x0CFC + lane. -/
  | t1DataWr8 (lane : BitVec 2) (val : Byte)
  /-- `T1.DATA.WR16`: 16-bit write of 0x0CFC + lane. -/
  | t1DataWr16 (lane : BitVec 2) (val : Word)
  /-- `T1.DATA.WR32`: 32-bit write of 0x0CFC + lane. -/
  | t1DataWr32 (lane : BitVec 2) (val : Dword)
  /-- `T2.WIN.RD8`: byte read of 0xC000 + 256 * dev + reg. -/
  | t2WinRd8 (dev : BitVec 4) (reg : Byte)
  /-- `T2.WIN.RD16`: 16-bit read of 0xC000 + 256 * dev + reg. -/
  | t2WinRd16 (dev : BitVec 4) (reg : Byte)
  /-- `T2.WIN.RD32`: 32-bit read of 0xC000 + 256 * dev + reg. -/
  | t2WinRd32 (dev : BitVec 4) (reg : Byte)
  /-- `T2.WIN.WR8`: byte write of 0xC000 + 256 * dev + reg. -/
  | t2WinWr8 (dev : BitVec 4) (reg : Byte) (val : Byte)
  /-- `T2.WIN.WR16`: 16-bit write of 0xC000 + 256 * dev + reg. -/
  | t2WinWr16 (dev : BitVec 4) (reg : Byte) (val : Word)
  /-- `T2.WIN.WR32`: 32-bit write of 0xC000 + 256 * dev + reg. -/
  | t2WinWr32 (dev : BitVec 4) (reg : Byte) (val : Dword)
  /-- `IO.NONE`: any transaction whose direction, width and port fit no other row. -/
  | ioNone (port : Port) (access : Access)
  /-- `INIT(type)`. -/
  | init (type : Byte)
  /-- `REGISTER_SLOT(device, class, inta, intb, intc, intd)`. -/
  | registerSlot (device cls inta intb intc intd : Byte)
  /-- `ADD_CARD(add_type, h)`. -/
  | addCard (addType : Byte) (h : Handle)
  /-- `SET_IRQ_ROUTING(pci_int, irq)`. -/
  | setIrqRouting (pciInt irq : Byte)
  /-- `SET_IRQ_LEVEL(pci_int, level)`. -/
  | setIrqLevel (pciInt : Byte) (level : Bool)
  /-- `SET_IRQ(card, pin)`. -/
  | setIrq (card pin : Byte)
  /-- `CLEAR_IRQ(card, pin)`. -/
  | clearIrq (card pin : Byte)
  /-- `ENABLE_MIRQ(mirq)`. -/
  | enableMirq (mirq : Byte)
  /-- `SET_MIRQ_ROUTING(mirq, irq)`. -/
  | setMirqRouting (mirq irq : Byte)
  /-- `SET_MIRQ(mirq, level)`. -/
  | setMirq (mirq : Byte) (level : Bool)
  /-- `CLEAR_MIRQ(mirq, level)`. -/
  | clearMirq (mirq : Byte) (level : Bool)
  /-- `ELCR_SET_ENABLED(en)`. -/
  | elcrSetEnabled (en : Bool)
  /-- `RESET`. -/
  | reset
  /-- `IRQ_IS_LEVEL(irq)`. -/
  | irqIsLevel (irq : Byte)
  deriving DecidableEq, Repr

/-- Why a request is not (or not fully) an operation. The first two are operations the spec gives the behaviour
"refuse" (30_encoding.md R102); the last three are no operation at all (log 4). -/
inductive DecodeError where
  /-- A sideband command code not in 30_encoding.md R105. -/
  | unknownCommand
  /-- A 1-bit operand of a sideband operation given a value that is not 0 or 1. -/
  | operandNotABit
  /-- Size code 3 of the transaction word, which "does not exist" (30_encoding.md R90). -/
  | noSuchSize
  /-- A bit above bit 18 of the transaction word is set. -/
  | strayBits
  /-- The request does not hold as many bytes as its operation has. -/
  | wrongLength
  deriving DecidableEq, Repr

end Sys2Proof
end

