-- ==== Sys2Proof/WellFormed.lean ====
section
/-! DEFINITION. Which terms of `Instr` are operations of the table: all but an `IO.NONE` at a (direction, width, port)
that another row of 30_encoding.md R92 names. Operands outside their domain are well formed: the spec gives them the
behaviour "refuse" (00_scope.md R11), which is their meaning. -/

namespace Sys2Proof

/-- A port of the CONFIG_DATA register, 0x0CFC-0x0CFF. -/
def isConfigDataPort (p : Port) : Bool := 0x0CFC ≤ p.toNat && p.toNat ≤ 0x0CFF

/-- A port of the Type 2 window, 0xC000-0xCFFF. -/
def isWindowPort (p : Port) : Bool := 0xC000 ≤ p.toNat && p.toNat ≤ 0xCFFF

/-- A port some byte row names: ELCR, CSE, TRC, bus number, PMC, CONFIG_DATA, window. -/
def isBytePort (p : Port) : Bool :=
  p.toNat == 0x04D0 || p.toNat == 0x04D1 || (0x0CF8 ≤ p.toNat && p.toNat ≤ 0x0CFF) || isWindowPort p

/-- A port some 16-bit row names: TRC, CONFIG_DATA, window. -/
def isWordPort (p : Port) : Bool := p.toNat == 0x0CF9 || isConfigDataPort p || isWindowPort p

/-- A port some 32-bit row names: CONFIG_ADDRESS, TRC, CONFIG_DATA, window. -/
def isDwordPort (p : Port) : Bool := p.toNat == 0x0CF8 || isWordPort p

/-- Some row other than `IO.NONE` names this direction, width and port (30_encoding.md R92, whatever its `when`). -/
def hasNamedRow (p : Port) : Access → Bool
  | .rd8 => isBytePort p
  | .wr8 _ => isBytePort p
  | .rd16 => isWordPort p
  | .wr16 _ => isWordPort p
  | .rd32 => isDwordPort p
  | .wr32 _ => isDwordPort p

/-- The operation is one that decoding can give: an `IO.NONE` only where no other row stands (30_encoding.md R91). -/
def Instr.wellFormed : Instr → Bool
  | .elcrRd _ => true
  | .elcrWr _ _ => true
  | .t1AddrRd => true
  | .t1AddrWr _ => true
  | .t2CseRd => true
  | .t2CseWr _ => true
  | .trcRd8 => true
  | .trcRd16 => true
  | .trcRd32 => true
  | .trcWr8 _ => true
  | .trcWr16 _ => true
  | .trcWr32 _ => true
  | .t2BusRd => true
  | .t2BusWr _ => true
  | .pmcRd => true
  | .pmcWr _ => true
  | .t1DataRd8 _ => true
  | .t1DataRd16 _ => true
  | .t1DataRd32 _ => true
  | .t1DataWr8 _ _ => true
  | .t1DataWr16 _ _ => true
  | .t1DataWr32 _ _ => true
  | .t2WinRd8 _ _ => true
  | .t2WinRd16 _ _ => true
  | .t2WinRd32 _ _ => true
  | .t2WinWr8 _ _ _ => true
  | .t2WinWr16 _ _ _ => true
  | .t2WinWr32 _ _ _ => true
  | .ioNone port access => !hasNamedRow port access
  | .init _ => true
  | .registerSlot _ _ _ _ _ _ => true
  | .addCard _ _ => true
  | .setIrqRouting _ _ => true
  | .setIrqLevel _ _ => true
  | .setIrq _ _ => true
  | .clearIrq _ _ => true
  | .enableMirq _ => true
  | .setMirqRouting _ _ => true
  | .setMirq _ _ => true
  | .clearMirq _ _ => true
  | .elcrSetEnabled _ => true
  | .reset => true
  | .irqIsLevel _ => true

end Sys2Proof
end

