-- ==== Sys2Proof/Decode.lean ====
section
/-! DEFINITION. Decoding and encoding of requests (30_encoding.md R90-R92, R105). A host transaction is three bytes of
the 19-bit transaction word, least significant first, then its data bytes; a sideband operation is its command code,
then its operand bytes in the order of R105 (log 2). Decoding does not look at the state: the `when` of a row is
tested by the meaning (R91, R111; log 11). -/

namespace Sys2Proof

/-- What a request decodes to. -/
inductive Decoded where
  | instr (i : Instr)
  | error (e : DecodeError)
  deriving DecidableEq, Repr

/-- The byte-read row of a port (30_encoding.md R92, R111): `match`/`mask` 0x0C000/0x7F000, 0x00CFC/0x7FFFC,
0x004D0/0x7FFFE and four exact ports. -/
def decodeRead8 (p : Port) : Instr :=
  if p.extractLsb' 12 4 = 0xC then .t2WinRd8 (p.extractLsb' 8 4) (p.extractLsb' 0 8)
  else if p.extractLsb' 2 14 = 0x33F then .t1DataRd8 (p.extractLsb' 0 2)
  else if p.extractLsb' 1 15 = 0x268 then .elcrRd (p.extractLsb' 0 1)
  else if p = 0x0CF8 then .t2CseRd
  else if p = 0x0CF9 then .trcRd8
  else if p = 0x0CFA then .t2BusRd
  else if p = 0x0CFB then .pmcRd
  else .ioNone p .rd8

/-- The 16-bit-read row of a port. -/
def decodeRead16 (p : Port) : Instr :=
  if p.extractLsb' 12 4 = 0xC then .t2WinRd16 (p.extractLsb' 8 4) (p.extractLsb' 0 8)
  else if p.extractLsb' 2 14 = 0x33F then .t1DataRd16 (p.extractLsb' 0 2)
  else if p = 0x0CF9 then .trcRd16
  else .ioNone p .rd16

/-- The 32-bit-read row of a port. -/
def decodeRead32 (p : Port) : Instr :=
  if p.extractLsb' 12 4 = 0xC then .t2WinRd32 (p.extractLsb' 8 4) (p.extractLsb' 0 8)
  else if p.extractLsb' 2 14 = 0x33F then .t1DataRd32 (p.extractLsb' 0 2)
  else if p = 0x0CF8 then .t1AddrRd
  else if p = 0x0CF9 then .trcRd32
  else .ioNone p .rd32

/-- The byte-write row of a port. -/
def decodeWrite8 (p : Port) (v : Byte) : Instr :=
  if p.extractLsb' 12 4 = 0xC then .t2WinWr8 (p.extractLsb' 8 4) (p.extractLsb' 0 8) v
  else if p.extractLsb' 2 14 = 0x33F then .t1DataWr8 (p.extractLsb' 0 2) v
  else if p.extractLsb' 1 15 = 0x268 then .elcrWr (p.extractLsb' 0 1) v
  else if p = 0x0CF8 then .t2CseWr v
  else if p = 0x0CF9 then .trcWr8 v
  else if p = 0x0CFA then .t2BusWr v
  else if p = 0x0CFB then .pmcWr v
  else .ioNone p (.wr8 v)

/-- The 16-bit-write row of a port. -/
def decodeWrite16 (p : Port) (v : Word) : Instr :=
  if p.extractLsb' 12 4 = 0xC then .t2WinWr16 (p.extractLsb' 8 4) (p.extractLsb' 0 8) v
  else if p.extractLsb' 2 14 = 0x33F then .t1DataWr16 (p.extractLsb' 0 2) v
  else if p = 0x0CF9 then .trcWr16 v
  else .ioNone p (.wr16 v)

/-- The 32-bit-write row of a port. -/
def decodeWrite32 (p : Port) (v : Dword) : Instr :=
  if p.extractLsb' 12 4 = 0xC then .t2WinWr32 (p.extractLsb' 8 4) (p.extractLsb' 0 8) v
  else if p.extractLsb' 2 14 = 0x33F then .t1DataWr32 (p.extractLsb' 0 2) v
  else if p = 0x0CF8 then .t1AddrWr v
  else if p = 0x0CF9 then .trcWr32 v
  else .ioNone p (.wr32 v)

/-- The row a host transaction selects, its `when` aside (30_encoding.md R111). -/
def decodeAccess (p : Port) : Access → Instr
  | .rd8 => decodeRead8 p
  | .rd16 => decodeRead16 p
  | .rd32 => decodeRead32 p
  | .wr8 v => decodeWrite8 p v
  | .wr16 v => decodeWrite16 p v
  | .wr32 v => decodeWrite32 p v

/-- A host transaction from its transaction word's three bytes and its data bytes (30_encoding.md R90). -/
def decodeTransaction (b0 b1 b2 : Byte) (data : List Byte) : Decoded :=
  if b2.extractLsb' 3 5 ≠ 0 then .error .strayBits
  else if b2.extractLsb' 0 2 = 3 then .error .noSuchSize
  else
    let port : Port := b1 ++ b0
    let size := b2.extractLsb' 0 2
    match b2.getLsbD 2, data with
    | false, [] =>
      if size = 0 then .instr (decodeAccess port .rd8)
      else if size = 1 then .instr (decodeAccess port .rd16)
      else .instr (decodeAccess port .rd32)
    | true, [d0] => if size = 0 then .instr (decodeAccess port (.wr8 d0)) else .error .wrongLength
    | true, [d0, d1] => if size = 1 then .instr (decodeAccess port (.wr16 (d1 ++ d0))) else .error .wrongLength
    | true, [d0, d1, d2, d3] =>
      if size = 2 then .instr (decodeAccess port (.wr32 (d3 ++ d2 ++ d1 ++ d0))) else .error .wrongLength
    | _, _ => .error .wrongLength

/-- A 1-bit operand (30_encoding.md R105 `level`, `en`), carried in one byte. -/
def decodeBit (b : Byte) (f : Bool → Instr) : Decoded :=
  if b = 0 then .instr (f false) else if b = 1 then .instr (f true) else .error .operandNotABit

/-- A sideband operation from its command code and operand bytes (30_encoding.md R105). -/
def decodeCommand (code : Byte) (operands : List Byte) : Decoded :=
  match code.toNat with
  | 0x01 => match operands with
    | [type] => .instr (.init type)
    | _ => .error .wrongLength
  | 0x02 => match operands with
    | [device, cls, inta, intb, intc, intd] => .instr (.registerSlot device cls inta intb intc intd)
    | _ => .error .wrongLength
  | 0x03 => match operands with
    | [addType, h0, h1, h2, h3] => .instr (.addCard addType (h3 ++ h2 ++ h1 ++ h0))
    | _ => .error .wrongLength
  | 0x04 => match operands with
    | [pciInt, irq] => .instr (.setIrqRouting pciInt irq)
    | _ => .error .wrongLength
  | 0x05 => match operands with
    | [pciInt, level] => decodeBit level (.setIrqLevel pciInt)
    | _ => .error .wrongLength
  | 0x06 => match operands with
    | [card, pin] => .instr (.setIrq card pin)
    | _ => .error .wrongLength
  | 0x07 => match operands with
    | [card, pin] => .instr (.clearIrq card pin)
    | _ => .error .wrongLength
  | 0x08 => match operands with
    | [mirq] => .instr (.enableMirq mirq)
    | _ => .error .wrongLength
  | 0x09 => match operands with
    | [mirq, irq] => .instr (.setMirqRouting mirq irq)
    | _ => .error .wrongLength
  | 0x0A => match operands with
    | [mirq, level] => decodeBit level (.setMirq mirq)
    | _ => .error .wrongLength
  | 0x0B => match operands with
    | [mirq, level] => decodeBit level (.clearMirq mirq)
    | _ => .error .wrongLength
  | 0x0C => match operands with
    | [en] => decodeBit en .elcrSetEnabled
    | _ => .error .wrongLength
  | 0x0D => match operands with
    | [] => .instr .reset
    | _ => .error .wrongLength
  | 0x0E => match operands with
    | [irq] => .instr (.irqIsLevel irq)
    | _ => .error .wrongLength
  | _ => .error .unknownCommand

/-- Decoding, total on any bytes. -/
def decode (fmt : Format) (bytes : List Byte) : Decoded :=
  match fmt, bytes with
  | .iox, b0 :: b1 :: b2 :: data => decodeTransaction b0 b1 b2 data
  | .iox, _ => .error .wrongLength
  | .cmd, code :: operands => decodeCommand code operands
  | .cmd, [] => .error .wrongLength

/-- The four bytes of a 32-bit value, least significant first (20_memory.md R62). -/
def dwordBytes (v : Dword) : List Byte :=
  [v.extractLsb' 0 8, v.extractLsb' 8 8, v.extractLsb' 16 8, v.extractLsb' 24 8]

/-- The three bytes of a transaction word with `dir` and `size` in `head` (30_encoding.md R90), then the data. -/
def transactionBytes (head : Byte) (p : Port) (data : List Byte) : List Byte :=
  p.extractLsb' 0 8 :: p.extractLsb' 8 8 :: head :: data

/-- The bytes of a host transaction (30_encoding.md R90). -/
def encodeAccess (p : Port) : Access → List Byte
  | .rd8 => transactionBytes 0x00 p []
  | .rd16 => transactionBytes 0x01 p []
  | .rd32 => transactionBytes 0x02 p []
  | .wr8 v => transactionBytes 0x04 p [v]
  | .wr16 v => transactionBytes 0x05 p [v.extractLsb' 0 8, v.extractLsb' 8 8]
  | .wr32 v => transactionBytes 0x06 p (dwordBytes v)

/-- The port of an ELCR register (30_encoding.md R101). -/
def elcrPort (reg : BitVec 1) : Port := 0x04D0 ||| reg.setWidth 16

/-- The port of a CONFIG_DATA lane (30_encoding.md R96). -/
def configDataPort (lane : BitVec 2) : Port := 0x0CFC ||| lane.setWidth 16

/-- The port of a Type 2 window register (30_encoding.md R100). -/
def windowPort (dev : BitVec 4) (reg : Byte) : Port := (0xC : BitVec 4) ++ dev ++ reg

/-- One byte of a 1-bit operand. -/
def bitByte (b : Bool) : Byte := if b then 1 else 0

/-- The request that stands for an operation: its format and its bytes. -/
def encode : Instr → Format × List Byte
  | .elcrRd reg => (.iox, encodeAccess (elcrPort reg) .rd8)
  | .elcrWr reg val => (.iox, encodeAccess (elcrPort reg) (.wr8 val))
  | .t1AddrRd => (.iox, encodeAccess 0x0CF8 .rd32)
  | .t1AddrWr val => (.iox, encodeAccess 0x0CF8 (.wr32 val))
  | .t2CseRd => (.iox, encodeAccess 0x0CF8 .rd8)
  | .t2CseWr val => (.iox, encodeAccess 0x0CF8 (.wr8 val))
  | .trcRd8 => (.iox, encodeAccess 0x0CF9 .rd8)
  | .trcRd16 => (.iox, encodeAccess 0x0CF9 .rd16)
  | .trcRd32 => (.iox, encodeAccess 0x0CF9 .rd32)
  | .trcWr8 val => (.iox, encodeAccess 0x0CF9 (.wr8 val))
  | .trcWr16 val => (.iox, encodeAccess 0x0CF9 (.wr16 val))
  | .trcWr32 val => (.iox, encodeAccess 0x0CF9 (.wr32 val))
  | .t2BusRd => (.iox, encodeAccess 0x0CFA .rd8)
  | .t2BusWr val => (.iox, encodeAccess 0x0CFA (.wr8 val))
  | .pmcRd => (.iox, encodeAccess 0x0CFB .rd8)
  | .pmcWr val => (.iox, encodeAccess 0x0CFB (.wr8 val))
  | .t1DataRd8 lane => (.iox, encodeAccess (configDataPort lane) .rd8)
  | .t1DataRd16 lane => (.iox, encodeAccess (configDataPort lane) .rd16)
  | .t1DataRd32 lane => (.iox, encodeAccess (configDataPort lane) .rd32)
  | .t1DataWr8 lane val => (.iox, encodeAccess (configDataPort lane) (.wr8 val))
  | .t1DataWr16 lane val => (.iox, encodeAccess (configDataPort lane) (.wr16 val))
  | .t1DataWr32 lane val => (.iox, encodeAccess (configDataPort lane) (.wr32 val))
  | .t2WinRd8 dev reg => (.iox, encodeAccess (windowPort dev reg) .rd8)
  | .t2WinRd16 dev reg => (.iox, encodeAccess (windowPort dev reg) .rd16)
  | .t2WinRd32 dev reg => (.iox, encodeAccess (windowPort dev reg) .rd32)
  | .t2WinWr8 dev reg val => (.iox, encodeAccess (windowPort dev reg) (.wr8 val))
  | .t2WinWr16 dev reg val => (.iox, encodeAccess (windowPort dev reg) (.wr16 val))
  | .t2WinWr32 dev reg val => (.iox, encodeAccess (windowPort dev reg) (.wr32 val))
  | .ioNone port access => (.iox, encodeAccess port access)
  | .init type => (.cmd, [0x01, type])
  | .registerSlot device cls inta intb intc intd => (.cmd, [0x02, device, cls, inta, intb, intc, intd])
  | .addCard addType h => (.cmd, 0x03 :: addType :: dwordBytes h)
  | .setIrqRouting pciInt irq => (.cmd, [0x04, pciInt, irq])
  | .setIrqLevel pciInt level => (.cmd, [0x05, pciInt, bitByte level])
  | .setIrq card pin => (.cmd, [0x06, card, pin])
  | .clearIrq card pin => (.cmd, [0x07, card, pin])
  | .enableMirq mirq => (.cmd, [0x08, mirq])
  | .setMirqRouting mirq irq => (.cmd, [0x09, mirq, irq])
  | .setMirq mirq level => (.cmd, [0x0A, mirq, bitByte level])
  | .clearMirq mirq level => (.cmd, [0x0B, mirq, bitByte level])
  | .elcrSetEnabled en => (.cmd, [0x0C, bitByte en])
  | .reset => (.cmd, [0x0D])
  | .irqIsLevel irq => (.cmd, [0x0E, irq])

/-- The first `n` bytes of a number, least significant first. -/
def littleEndian : Nat → Nat → List Byte
  | 0, _ => []
  | n + 1, w => BitVec.ofNat 8 w :: littleEndian n (w / 256)

/-- The number of operand bytes of a command code (30_encoding.md R105; a handle is four bytes). -/
def operandCount (code : Byte) : Nat :=
  match code.toNat with
  | 0x01 => 1
  | 0x02 => 6
  | 0x03 => 5
  | 0x04 => 2
  | 0x05 => 2
  | 0x06 => 2
  | 0x07 => 2
  | 0x08 => 1
  | 0x09 => 2
  | 0x0A => 2
  | 0x0B => 2
  | 0x0C => 1
  | 0x0E => 1
  | _ => 0

/-- The number of data bytes of a transaction, from the third byte of its word (30_encoding.md R90). -/
def dataCount (b2 : Byte) : Nat :=
  if b2.getLsbD 2 then 2 ^ (b2.extractLsb' 0 2).toNat else 0

/-- How many bytes the request that starts with these bytes has. -/
def requestLength (fmt : Format) (bytes : List Byte) : Nat :=
  match fmt with
  | .iox => 3 + dataCount (bytes.getD 2 0)
  | .cmd => 1 + operandCount (bytes.getD 0 0)

/-- The format of an opcode-table row of `nbits` bits: sideband rows have 8, host transactions 19 (30_encoding.md R111). -/
def tableFormat (nbits : Nat) : Format := if nbits ≤ 8 then .cmd else .iox

/-- The request whose bits are `w`, numbered as the opcode table numbers them, every bit from `nbits` up being 0. The
longest request has seven bytes. -/
def tableBytes (nbits w : Nat) : List Byte :=
  let bytes := littleEndian 7 (w % 2 ^ nbits)
  bytes.take (requestLength (tableFormat nbits) bytes)

/-- The operation the decoder reads from an instruction whose bits are `w`. -/
def decodeTableWord (nbits w : Nat) : Option Instr :=
  match decode (tableFormat nbits) (tableBytes nbits w) with
  | .instr i => some i
  | .error _ => none

end Sys2Proof
end

