-- ==== Sys2Proof/Config.lean ====
section
/-! DEFINITION. What an implementation fixes (the open parameters of 00_scope.md R6) and the free values that stand
for the environment of R9: constants with no body, so that no proof can see what they are. -/

namespace Sys2Proof

/-- The source of the level flag when `no_steer` is set (00_scope.md R6, `NOSTEER_LEVEL_SOURCE`). -/
inductive NoSteerLevelSource where
  | edge
  | irqIsLevel
  deriving DecidableEq, Repr

/-- The two halves of the 8259 pair whose ICW1 mode bit the block reads (00_scope.md R9(b)). -/
inductive PicHalf where
  | master
  | slave
  deriving DecidableEq, Repr

/-- The five parameters the document leaves open (00_scope.md R6); "the model takes each as an argument", so a state
carries them and no operation changes them (log 8). -/
structure Params where
  trcSoftResetCascades : Bool
  trcReadMask : Byte
  nosteerLevelSource : NoSteerLevelSource
  irqLevelInit : Bool
  elcrEnabledInit : Bool
  deriving DecidableEq, Repr

/-- The defaults of 00_scope.md R6 (the spec's own decisions D17, D18, D20, D22). -/
def Params.default : Params where
  trcSoftResetCascades := false
  trcReadMask := 0xFB
  nosteerLevelSource := .edge
  irqLevelInit := true
  elcrEnabledInit := false

/-- FREE VALUE (log 6): what `DevRead(h, func, addr)` answers (00_scope.md R9(a)) at the n-th call since power-on, where
the state's script of answers does not say. "The value is the device's; the block assumes nothing of it." -/
opaque Config.devAnswer : Nat → Handle → BitVec 3 → Byte → Byte

/-- FREE VALUE (log 7): the 8259's ICW1 level/edge mode bit (00_scope.md R9(b)) at the n-th query since power-on, where
the state's script of answers does not say; true means level. -/
opaque Config.ltimAnswer : Nat → PicHalf → Bool

end Sys2Proof
end

