-- ==== Sys2Proof/Machine/State.lean ====
section
/-! DEFINITION. The state as plain data. `Block` is the state of the block, "exactly the fields of rules R22 to R34"
(10_state.md R20). `State` adds what `step : Params -> State -> Operation -> Env -> State x Result x list Output`
(00_scope.md R7) takes and gives beside it: the operations presented, the parameters, the environment's answers and
the observation. -/

namespace Sys2Proof.Machine

open Sys2Proof

/-- The configuration mechanism (10_state.md R23). -/
inductive Mech where
  | t1
  | t2
  deriving DecidableEq, Repr

/-- The class tag of a slot (10_state.md R24). -/
inductive SlotClass where
  | normal
  | video
  | scsi
  | sound
  | northbridge
  | southbridge
  | onboard
  deriving DecidableEq, Repr

/-- Where a pin of a slot is wired: a logical PCI interrupt, or nothing (10_state.md R24). -/
inductive PinRoute where
  | disabled
  | inta
  | intb
  | intc
  | intd
  deriving DecidableEq, Repr

/-- A slot descriptor (10_state.md R24). `cls` is `none` for the spec's NONE; `dev` is `some h` exactly when the spec's
`bound` is 1, with `h` the spec's `dev`. -/
structure Slot where
  id : Byte
  cls : Option SlotClass
  route : Vector PinRoute 4
  dev : Option Handle
  deriving DecidableEq, Repr

/-- An unregistered descriptor (10_state.md R45). -/
def Slot.empty : Slot where
  id := 0xFF
  cls := none
  route := Vector.replicate 4 .disabled
  dev := none

/-- An entry of the global interrupt-routing table (10_state.md R27); `irq` above 15 is disabled, `level` true is level. -/
structure IrqRoute where
  irq : Byte
  level : Bool
  deriving DecidableEq, Repr

/-- An entry of the mirror-IRQ table (10_state.md R28); `irq` above 15 is disabled. -/
structure MirqEntry where
  enabled : Bool
  irq : Byte
  deriving DecidableEq, Repr

/-- The state of the block (10_state.md R20, R22-R34). -/
structure Block where
  initialised : Bool
  mech : Mech
  noSteer : Bool
  slots : Vector Slot 32
  nslots : Nat
  dev2slot : Vector (Option (Fin 32)) 32
  irqRoute : Vector IrqRoute 4
  mirq : Vector MirqEntry 3
  hold : Vector HoldMask 16
  caReg : Byte
  caFunc : BitVec 3
  caDev : BitVec 5
  caBus : Byte
  caEn : Bool
  t2Func : BitVec 3
  t2Key : BitVec 4
  t2Bus : Byte
  pmc : Bool
  elcr0 : Byte
  elcr1 : Byte
  elcrEn : Bool
  trc : Byte
  deriving DecidableEq, Repr

/-- An operation as an agent presents it (00_scope.md R8): the interface it comes by, and its bytes. -/
structure Request where
  format : Format
  bytes : List Byte
  deriving DecidableEq, Repr

/-- The environment of 00_scope.md R9: the answers given to this run so far as it goes, and how many were taken. Past
the end of a script the answer is a free value of Config (log 6, log 7). -/
structure Env where
  devScript : List Byte
  devReads : Nat
  ltimScript : List Bool
  ltimReads : Nat
  deriving DecidableEq, Repr

/-- The targets of the reset strobes (00_scope.md R10, 43_elcr_trc.md R249). -/
inductive Strobe where
  | dmaReset
  | deviceResetAll
  | cpuAltResetClear
  | kbcReset
  | a20Reset
  | mmuFlush
  | cpuReset
  deriving DecidableEq, Repr

/-- An output event (00_scope.md R10). -/
inductive Event where
  | devReadCall (h : Handle) (func : BitVec 3) (addr : Byte)
  | devWrite (h : Handle) (func : BitVec 3) (addr : Byte) (val : Byte)
  | picEdge (irq : Fin 16)
  | picLevel (irq : Fin 16)
  | picClear (irq : Fin 16)
  | strobe (target : Strobe)
  deriving DecidableEq, Repr

/-- The value an operation returns (00_scope.md R10): nothing, a read's value, ADD_CARD's byte, IRQ_IS_LEVEL's bit. -/
inductive Result where
  | none
  | val8 (v : Byte)
  | val16 (v : Word)
  | val32 (v : Dword)
  | bit (b : Bool)
  deriving DecidableEq, Repr

/-- One item of "the sequence of results and output events" that is the observation of a run (00_scope.md R10). Every
operation ends with exactly one `result` (log 10). -/
inductive Obs where
  | event (e : Event)
  | result (r : Result)
  deriving DecidableEq, Repr

/-- The machine: the block, and as plain data what 00_scope.md R7 passes to and takes from its step. -/
structure State where
  blk : Block
  params : Params
  pending : List Request
  env : Env
  trace : List Obs
  deriving DecidableEq, Repr

/-- "No operation of the block faults, traps, stalls" (60_exceptions.md R260): there is no fault. -/
inductive Fault where
  deriving DecidableEq, Repr

/-- Why a step gives no meaning. -/
inductive Refusal where
  /-- Raised by an arm of exec whose operation has no meaning yet; safe. No arm of this model raises it. -/
  | notModelled (mnemonic : String)
  /-- Raised by step, before any operation runs, for a pending request that is no operation of the block: size code 3,
  which "does not exist" (30_encoding.md R90), bits outside the transaction word, or a wrong number of bytes; safe. -/
  | notAnOperation (why : DecodeError)
  deriving DecidableEq, Repr

/-- The outcome of a step or of a meaning. -/
abbrev StepOutcome := Host.Outcome State Fault Refusal

/-- The block at power-on: "only `initialised = false` is defined; every other field has no value, and no operation
reads one" (10_state.md R47). DESIGN CHOICE, unsafe (log 9): the other fields hold what 10_state.md R45 gives them after
`INIT` of a Type 1 machine with the default parameters. -/
def Block.powerOn : Block where
  initialised := false
  mech := .t1
  noSteer := false
  slots := Vector.replicate 32 Slot.empty
  nslots := 0
  dev2slot := Vector.replicate 32 none
  irqRoute := Vector.replicate 4 { irq := 0xFF, level := true }
  mirq := Vector.replicate 3 { enabled := false, irq := 0xFF }
  hold := Vector.replicate 16 0
  caReg := 0
  caFunc := 0
  caDev := 0
  caBus := 0
  caEn := false
  t2Func := 0
  t2Key := 0
  t2Bus := 0
  pmc := false
  elcr0 := 0
  elcr1 := 0
  elcrEn := false
  trc := 0

/-- Power-on (70_reset_and_hazards.md R290): nothing presented, nothing observed, the default parameters (log 8). -/
def State.reset : State where
  blk := Block.powerOn
  params := Params.default
  pending := []
  env := { devScript := [], devReads := 0, ltimScript := [], ltimReads := 0 }
  trace := []

end Sys2Proof.Machine
end

