-- ==== Sys2Proof/Machine/Ops.lean ====
section
/-! DEFINITION. The operations every meaning is written over: output (00_scope.md R10), the environment (R9), the
configuration dispatch (40_config_decoder.md R131, R132), the hold masks (42_interrupt_router.md R206, R207) and the
subsystem reset (43_elcr_trc.md R249, R251). The block raises no exception (60_exceptions.md R260), so there is no
operation that takes one. -/

namespace Sys2Proof.Machine

open Sys2Proof

/-- `emit E` (00_scope.md R13). -/
def emit (e : Event) (s : State) : State := { s with trace := s.trace ++ [.event e] }

/-- Several events in order. -/
def emitAll (es : List Event) (s : State) : State := { s with trace := s.trace ++ es.map .event }

/-- The end of an operation: its result joins the observation (00_scope.md R10). -/
def answer (r : Result) (s : State) : State := { s with trace := s.trace ++ [.result r] }

/-- `return v`: the operation completes with a result. -/
def complete (r : Result) (s : State) : StepOutcome := .next (answer r s)

/-- `refuse` (00_scope.md R11): "changes no state, emits no event and returns no value". The operation is over and the
block goes on (log 3). -/
def refuse (s : State) : StepOutcome := complete .none s

/-- The block with another value of its state; all else as it was. -/
def withBlock (b : Block) (s : State) : State := { s with blk := b }

/-- What the device answers to the next `DevRead` (00_scope.md R9(a)): any value. -/
def devAnswer (h : Handle) (func : BitVec 3) (addr : Byte) (s : State) : Byte :=
  s.env.devScript[s.env.devReads]?.getD (Config.devAnswer s.env.devReads h func addr)

/-- `DevRead(h, func, addr)` with its `DevReadCall` event (00_scope.md R9, R13). -/
def devRead (h : Handle) (func : BitVec 3) (addr : Byte) (s : State) : Byte × State :=
  (devAnswer h func addr s,
    emit (.devReadCall h func addr) { s with env := { s.env with devReads := s.env.devReads + 1 } })

/-- What the interrupt controller answers to the next `PicLtim` (00_scope.md R9(b)): any value. -/
def ltimAnswer (half : PicHalf) (s : State) : Bool :=
  s.env.ltimScript[s.env.ltimReads]?.getD (Config.ltimAnswer s.env.ltimReads half)

/-- `PicLtim(half)` (00_scope.md R9(b)); it emits nothing. -/
def picLtim (half : PicHalf) (s : State) : Bool × State :=
  (ltimAnswer half s, { s with env := { s.env with ltimReads := s.env.ltimReads + 1 } })

/-- The device bound for a device number: `dev2slot`, then the slot's device (40_config_decoder.md R131, R132). -/
def boundDevice (dev : BitVec 5) (b : Block) : Option Handle :=
  match b.dev2slot[dev.toFin] with
  | none => none
  | some i => b.slots[i].dev

/-- `CfgRead8(dev, func, addr)` (40_config_decoder.md R131). -/
def cfgRead8 (dev : BitVec 5) (func : BitVec 3) (addr : Byte) (s : State) : Byte × State :=
  match boundDevice dev s.blk with
  | none => (0xFF, s)
  | some h => devRead h func addr s

/-- `CfgWrite8(dev, func, addr, val)` (40_config_decoder.md R132). -/
def cfgWrite8 (dev : BitVec 5) (func : BitVec 3) (addr val : Byte) (s : State) : State :=
  match boundDevice dev s.blk with
  | none => s
  | some h => emit (.devWrite h func addr val) s

/-- `T1ports` (10_state.md R40). -/
def t1Ports (b : Block) : Bool := b.initialised && (b.mech == .t1 || b.pmc)

/-- `T2ports` (10_state.md R40). -/
def t2Ports (b : Block) : Bool := b.initialised && b.mech == .t2 && !b.pmc

/-- `window_open` (10_state.md R40). -/
def windowOpen (b : Block) : Bool := t2Ports b && b.t2Key != 0

/-- The port 0x0CFB is present (30_encoding.md R92). -/
def pmcPresent (b : Block) : Bool := b.initialised && b.mech == .t2

/-- `bit64(k)`: `1 << k` at 64 bits (00_scope.md R13, 42_interrupt_router.md R215). -/
def bit64 (k : Nat) : HoldMask := 1 <<< k

/-- The block with another hold mask of one line. -/
def setHold (q : Fin 16) (m : HoldMask) (b : Block) : Block := { b with hold := b.hold.set q m }

/-- Steps 5 to 7 of the assert algorithm (42_interrupt_router.md R206, R210), for the source whose hold bit is `bit`. -/
def assertLine (q : Fin 16) (level : Bool) (bit : HoldMask) (s : State) : State :=
  if level then
    if s.blk.hold[q] &&& bit ≠ 0 then s
    else
      let raised := if s.blk.hold[q] = 0 then emit (.picLevel q) s else s
      withBlock (setHold q (s.blk.hold[q] ||| bit) s.blk) raised
  else emit (.picEdge q) s

/-- The clear algorithm (42_interrupt_router.md R207, R211), for the source whose hold bit is `bit`. -/
def releaseLine (q : Fin 16) (level : Bool) (bit : HoldMask) (s : State) : State :=
  if level then
    if s.blk.hold[q] &&& bit = 0 then s
    else
      let released := withBlock (setHold q (s.blk.hold[q] &&& ~~~bit) s.blk) s
      if s.blk.hold[q] &&& ~~~bit = 0 then emit (.picClear q) released else released
  else emit (.picClear q) s

/-- The lines whose hold mask is not zero, ascending (43_elcr_trc.md R251). -/
def heldLines (b : Block) : List (Fin 16) := (List.finRange 16).filter fun q => b.hold[q] != 0

/-- The latch and the Type 2 fields cleared (40_config_decoder.md R150, 43_elcr_trc.md R251). -/
def clearDecoder (b : Block) : Block :=
  { b with
    caReg := 0, caFunc := 0, caDev := 0, caBus := 0, caEn := false
    t2Func := 0, t2Key := 0, t2Bus := 0 }

/-- `Reset()` (43_elcr_trc.md R251, 10_state.md R46). -/
def subsystemReset (s : State) : State :=
  withBlock
    { clearDecoder s.blk with
      hold := Vector.replicate 16 0
      elcr0 := 0, elcr1 := 0, pmc := false }
    (emitAll ((heldLines s.blk).map .picClear) s)

/-- `Cascade()` (43_elcr_trc.md R249). -/
def cascade (s : State) : State :=
  emitAll [.strobe .kbcReset, .strobe .a20Reset, .strobe .mmuFlush]
    (subsystemReset
      (emitAll [.strobe .dmaReset, .strobe .deviceResetAll, .strobe .cpuAltResetClear] s))

end Sys2Proof.Machine
end

