-- ==== Sys2Proof/Machine/Operands.lean ====
section
/-! DEFINITION. Every operand form and every register layout the spec gives: the values of the sideband operands
(30_encoding.md R106-R108) and the bit fields of the host-visible registers (R95-R101, R109). An operand outside its
domain is `none`. -/

namespace Sys2Proof.Machine

open Sys2Proof

/-- The mechanism of `INIT`'s `type`, bits 1:0 (30_encoding.md R106). -/
def initMech (type : Byte) : Option Mech :=
  if type.extractLsb' 0 2 = 1 then some .t1
  else if type.extractLsb' 0 2 = 2 then some .t2
  else none

/-- The "no IRQ steering" flag of `INIT`'s `type`, bit 7 (30_encoding.md R106). -/
def initNoSteer (type : Byte) : Bool := type.getLsbD 7

/-- A device number operand, 0-31 (30_encoding.md R107). -/
def deviceNumber (v : Byte) : Option (Fin 32) := if h : v.toNat < 32 then some ⟨v.toNat, h⟩ else none

/-- A class operand, 0-6 (30_encoding.md R107). -/
def slotClass (v : Byte) : Option SlotClass :=
  match v.toNat with
  | 0 => some .normal
  | 1 => some .video
  | 2 => some .scsi
  | 3 => some .sound
  | 4 => some .northbridge
  | 5 => some .southbridge
  | 6 => some .onboard
  | _ => none

/-- A pin wiring operand, 0-4 (30_encoding.md R107). -/
def pinRoute (v : Byte) : Option PinRoute :=
  match v.toNat with
  | 0 => some .disabled
  | 1 => some .inta
  | 2 => some .intb
  | 3 => some .intc
  | 4 => some .intd
  | _ => none

/-- An add type (30_encoding.md R107): a device number, or a class. -/
inductive AddType where
  | device (n : Fin 32)
  | cls (c : SlotClass)
  deriving DecidableEq, Repr

/-- The add type of an operand: 0x00-0x1F a device number, 0x80-0x86 a class (30_encoding.md R107). -/
def addTypeOf (v : Byte) : Option AddType :=
  if v.toNat < 0x80 then (deviceNumber v).map .device
  else (slotClass (v - 0x80)).map .cls

/-- `Matches(add_type, slot)` (41_slot_registry.md R184). -/
def matchesSlot : AddType → Slot → Bool
  | .device n, slot => slot.id.toNat == n.val
  | .cls c, slot => slot.cls == some c

/-- The index of `pin` or `pci_int`, 1-4 (30_encoding.md R108). -/
def intIndex (v : Byte) : Option (Fin 4) :=
  match v.toNat with
  | 1 => some 0
  | 2 => some 1
  | 3 => some 2
  | 4 => some 3
  | _ => none

/-- A mirror-IRQ number, 0-2 (30_encoding.md R108). -/
def mirqIndex (v : Byte) : Option (Fin 3) := if h : v.toNat < 3 then some ⟨v.toNat, h⟩ else none

/-- An IRQ number as a line, 0-15; above 15 there is none: disabled (30_encoding.md R108, 10_state.md R27). -/
def irqLine (v : Byte) : Option (Fin 16) := if h : v.toNat < 16 then some ⟨v.toNat, h⟩ else none

/-- The entry of the routing table a pin wiring names (42_interrupt_router.md R204). -/
def routeIndex : PinRoute → Option (Fin 4)
  | .disabled => none
  | .inta => some 0
  | .intb => some 1
  | .intc => some 2
  | .intd => some 3

/-- The hold bit of a card (30_encoding.md R109). -/
def cardBit (card : Fin 32) : HoldMask := bit64 card.val

/-- The hold bit of a mirror IRQ, bit 30, 31 or 32 (30_encoding.md R109). -/
def mirqBit (m : Fin 3) : HoldMask := bit64 (0x1E + m.val)

/-- The value of CONFIG_ADDRESS (30_encoding.md R95, R109). -/
def configAddress (b : Block) : Dword :=
  BitVec.ofBool b.caEn ++ (0 : BitVec 7) ++ b.caBus ++ b.caDev ++ b.caFunc ++ b.caReg

/-- A 32-bit write of CONFIG_ADDRESS (40_config_decoder.md R135, 30_encoding.md R95). -/
def latchAddress (v : Dword) (b : Block) : Block :=
  { b with
    caReg := v.extractLsb' 0 8
    caFunc := v.extractLsb' 8 3
    caDev := v.extractLsb' 11 5
    caBus := v.extractLsb' 16 8
    caEn := v.getLsbD 31 }

/-- The configuration index of a CONFIG_DATA lane, an OR (30_encoding.md R96). -/
def configIndex (lane : BitVec 2) (b : Block) : Byte := b.caReg ||| lane.setWidth 8

/-- The value of the CSE register (30_encoding.md R97, R109). -/
def cseValue (b : Block) : Byte := b.t2Key ++ b.t2Func ++ (0 : BitVec 1)

/-- A write of the CSE register (40_config_decoder.md R141). -/
def writeCse (v : Byte) (b : Block) : Block :=
  { b with t2Func := v.extractLsb' 1 3, t2Key := v.extractLsb' 4 4 }

/-- The value of the PMC register (40_config_decoder.md R151). -/
def pmcValue (b : Block) : Byte := (BitVec.ofBool b.pmc).setWidth 8

/-- A write of the PMC register (40_config_decoder.md R150). -/
def writePmc (v : Byte) (b : Block) : Block := { clearDecoder b with pmc := v.getLsbD 0 }

/-- The value of an ELCR register (43_elcr_trc.md R240). -/
def elcrValue (reg : BitVec 1) (b : Block) : Byte := if reg = 0 then b.elcr0 else b.elcr1

/-- A write of an ELCR register, with its fixed mask (43_elcr_trc.md R241, 30_encoding.md R101). -/
def writeElcr (reg : BitVec 1) (v : Byte) (b : Block) : Block :=
  if reg = 0 then { b with elcr0 := v &&& 0xF8 } else { b with elcr1 := v &&& 0xDE }

/-- The ELCR bit of a line: bit `n & 7` of register `n >> 3` (30_encoding.md R109). -/
def elcrBit (q : Fin 16) (b : Block) : Bool :=
  if q.val < 8 then b.elcr0.getLsbD q.val else b.elcr1.getLsbD (q.val - 8)

end Sys2Proof.Machine
end

