-- ==== Sys2Proof/Machine/Flags.lean ====
section
/-! DEFINITION. The block has no status flags; the one flag it computes is level or edge. Two independent sources exist
(42_interrupt_router.md R216): the routing table's flag, and `IsLevel`, from the ELCR or the 8259 mode bit. -/

namespace Sys2Proof.Machine

open Sys2Proof

/-- The lines hardwired to edge: IRQs 0-2, 8 and 13 (42_interrupt_router.md R212). -/
def hardwiredEdge (q : Fin 16) : Bool := q == 0 || q == 1 || q == 2 || q == 8 || q == 13

/-- The half of the 8259 pair a line belongs to: master below 8, slave otherwise (42_interrupt_router.md R212). -/
def picHalf (q : Fin 16) : PicHalf := if q.val < 8 then .master else .slave

/-- `IsLevel(irq)` (42_interrupt_router.md R212); it may query the 8259 mode bit. -/
def isLevel (q : Fin 16) (s : State) : Bool × State :=
  if hardwiredEdge q then (false, s)
  else if s.blk.elcrEn then (elcrBit q s.blk, s)
  else picLtim (picHalf q) s

/-- `Steer(r)` (42_interrupt_router.md R204): the routing entry of logical interrupt `k`. -/
def steer (k : Fin 4) (b : Block) : Byte × Bool := (b.irqRoute[k].irq, b.irqRoute[k].level)

/-- The level flag of a line in `no_steer` mode (42_interrupt_router.md R205). -/
def noSteerLevel (q : Fin 16) (s : State) : Bool × State :=
  match s.params.nosteerLevelSource with
  | .edge => (false, s)
  | .irqIsLevel => isLevel q s

end Sys2Proof.Machine
end

