-- ==== Sys2Proof/Machine/Ports.lean ====
section
/-! DEFINITION. The host port interface: the byte registers of the claim table (30_encoding.md R92), their reads and
writes, and the decomposition of wide transactions into byte lanes (20_memory.md R62-R65). -/

namespace Sys2Proof.Machine

open Sys2Proof

/-- The byte registers of 30_encoding.md R92. No two stand at one port. -/
inductive ByteReg where
  | elcr (reg : BitVec 1)
  | cse
  | trc
  | bus
  | pmc
  | configData (lane : BitVec 2)
  | window (dev : BitVec 4) (reg : Byte)
  deriving DecidableEq, Repr

/-- The byte register at a port, present or not (30_encoding.md R92). -/
def byteReg (p : Port) : Option ByteReg :=
  if p.extractLsb' 12 4 = 0xC then some (.window (p.extractLsb' 8 4) (p.extractLsb' 0 8))
  else if p.extractLsb' 2 14 = 0x33F then some (.configData (p.extractLsb' 0 2))
  else if p.extractLsb' 1 15 = 0x268 then some (.elcr (p.extractLsb' 0 1))
  else if p = 0x0CF8 then some .cse
  else if p = 0x0CF9 then some .trc
  else if p = 0x0CFA then some .bus
  else if p = 0x0CFB then some .pmc
  else none

/-- The "present when" column of 30_encoding.md R92. -/
def isPresent (b : Block) : ByteReg → Bool
  | .elcr _ => b.initialised
  | .cse => t2Ports b
  | .trc => b.initialised
  | .bus => t2Ports b
  | .pmc => pmcPresent b
  | .configData _ => t1Ports b
  | .window _ _ => windowOpen b

/-- The Type 1 gate (40_config_decoder.md R134): enabled, and bus 0. -/
def t1Gate (b : Block) : Bool := b.caEn && b.caBus == 0

/-- The Type 2 gate (40_config_decoder.md R148): bus 0. -/
def t2Gate (b : Block) : Bool := b.t2Bus == 0

/-- A byte of CONFIG_DATA (40_config_decoder.md R137). -/
def readConfigData (lane : BitVec 2) (s : State) : Byte × State :=
  if t1Gate s.blk then cfgRead8 s.blk.caDev s.blk.caFunc (configIndex lane s.blk) s else (0xFF, s)

/-- A byte written to CONFIG_DATA (40_config_decoder.md R139). -/
def writeConfigData (lane : BitVec 2) (v : Byte) (s : State) : State :=
  if t1Gate s.blk then cfgWrite8 s.blk.caDev s.blk.caFunc (configIndex lane s.blk) v s else s

/-- A byte of the Type 2 window (40_config_decoder.md R145): devices 0-15 only (30_encoding.md R100). -/
def readWindow (dev : BitVec 4) (reg : Byte) (s : State) : Byte × State :=
  if t2Gate s.blk then cfgRead8 (dev.setWidth 5) s.blk.t2Func reg s else (0xFF, s)

/-- A byte written to the Type 2 window (40_config_decoder.md R146). -/
def writeWindow (dev : BitVec 4) (reg v : Byte) (s : State) : State :=
  if t2Gate s.blk then cfgWrite8 (dev.setWidth 5) s.blk.t2Func reg v s else s

/-- The write fires a reset: stored bit 2 is 0 and written bit 2 is 1 (43_elcr_trc.md R247). -/
def trcFires (v : Byte) (b : Block) : Bool := !b.trc.getLsbD 2 && v.getLsbD 2

/-- What a byte write leaves in TRC: bit 2 is forced low when bit 1 is written (43_elcr_trc.md R247). -/
def trcStored (v : Byte) : Byte := if v.getLsbD 1 then v &&& 0xFB else v

/-- The reset a firing write runs: the cascade, if bit 1 is written or the parameter says so, and then the CPU reset
"unconditionally" (43_elcr_trc.md R247). -/
def trcReset (v : Byte) (s : State) : State :=
  emit (.strobe .cpuReset)
    (if v.getLsbD 1 || s.params.trcSoftResetCascades then cascade s else s)

/-- A byte written to TRC (43_elcr_trc.md R247). -/
def writeTrc (v : Byte) (s : State) : State :=
  let s' := if trcFires v s.blk then trcReset v s else s
  withBlock { s'.blk with trc := trcStored v } s'

/-- The read of a present byte register. -/
def readReg (r : ByteReg) (s : State) : Byte × State :=
  match r with
  | .elcr reg => (elcrValue reg s.blk, s)
  | .cse => (cseValue s.blk, s)
  | .trc => (s.blk.trc &&& s.params.trcReadMask, s)
  | .bus => (s.blk.t2Bus, s)
  | .pmc => (pmcValue s.blk, s)
  | .configData lane => readConfigData lane s
  | .window dev reg => readWindow dev reg s

/-- The write of a present byte register. -/
def writeReg (r : ByteReg) (v : Byte) (s : State) : State :=
  match r with
  | .elcr reg => withBlock (writeElcr reg v s.blk) s
  | .cse => withBlock (writeCse v s.blk) s
  | .trc => writeTrc v s
  | .bus => withBlock { s.blk with t2Bus := v } s
  | .pmc => withBlock (writePmc v s.blk) s
  | .configData lane => writeConfigData lane v s
  | .window dev reg => writeWindow dev reg v s

/-- A byte read of a register: all-ones where it is not present (20_memory.md R61). -/
def readByte (r : ByteReg) (s : State) : Byte × State := if isPresent s.blk r then readReg r s else (0xFF, s)

/-- A byte write of a register: ignored where it is not present (20_memory.md R61). -/
def writeByte (r : ByteReg) (v : Byte) (s : State) : State := if isPresent s.blk r then writeReg r v s else s

/-- `IoRead(p, 1)` (30_encoding.md R91): a port the block does not claim now reads all-ones (20_memory.md R61). -/
def ioRead8 (p : Port) (s : State) : Byte × State :=
  match byteReg p with
  | some r => readByte r s
  | none => (0xFF, s)

/-- `IoWrite(p, 1, v)` (30_encoding.md R91): a port the block does not claim now ignores it (20_memory.md R61). -/
def ioWrite8 (p : Port) (v : Byte) (s : State) : State :=
  match byteReg p with
  | some r => writeByte r v s
  | none => s

/-- Two byte lanes read in ascending order, the port counted modulo 65536 (20_memory.md R62, R64). -/
def readLanes16 (p : Port) (s : State) : Word × State :=
  let (b0, s0) := ioRead8 p s
  let (b1, s1) := ioRead8 (p + 1) s0
  (b1 ++ b0, s1)

/-- Four byte lanes read in ascending order (20_memory.md R62, R64). -/
def readLanes32 (p : Port) (s : State) : Dword × State :=
  let (lo, s0) := readLanes16 p s
  let (hi, s1) := readLanes16 (p + 2) s0
  (hi ++ lo, s1)

/-- Two byte lanes written in ascending order, each decoded against the state the lane before left (20_memory.md R64,
R75). -/
def writeLanes16 (p : Port) (v : Word) (s : State) : State :=
  ioWrite8 (p + 1) (v.extractLsb' 8 8) (ioWrite8 p (v.extractLsb' 0 8) s)

/-- Four byte lanes written in ascending order (20_memory.md R64, R75). -/
def writeLanes32 (p : Port) (v : Dword) (s : State) : State :=
  writeLanes16 (p + 2) (v.extractLsb' 16 16) (writeLanes16 p (v.extractLsb' 0 16) s)

/-- A read that returns one byte. -/
def complete8 (r : Byte × State) : StepOutcome := complete (.val8 r.1) r.2

/-- A read that returns 16 bits. -/
def complete16 (r : Word × State) : StepOutcome := complete (.val16 r.1) r.2

/-- A read that returns 32 bits. -/
def complete32 (r : Dword × State) : StepOutcome := complete (.val32 r.1) r.2

end Sys2Proof.Machine
end

