-- ==== Sys2Proof/Machine/Elcr.lean ====
section
/-! DEFINITION. The ELCR registers (43_elcr_trc.md section 1): ELCR.RD, ELCR.WR, ELCR_SET_ENABLED. -/

namespace Sys2Proof.Machine

open Sys2Proof

/-- `ELCR.RD` (43_elcr_trc.md R240). -/
def execElcrRd (reg : BitVec 1) (s : State) : StepOutcome := complete8 (readByte (.elcr reg) s)

/-- `ELCR.WR` (43_elcr_trc.md R241). -/
def execElcrWr (reg : BitVec 1) (val : Byte) (s : State) : StepOutcome :=
  complete .none (writeByte (.elcr reg) val s)

/-- `ELCR_SET_ENABLED(en)` (43_elcr_trc.md R242). -/
def execElcrSetEnabled (en : Bool) (s : State) : StepOutcome :=
  if s.blk.initialised then complete .none (withBlock { s.blk with elcrEn := en } s) else refuse s

end Sys2Proof.Machine
end

