-- ==== Sys2Proof/Machine/IoNone.lean ====
section
/-! DEFINITION. `IO.NONE`: a transaction that fits no other row (20_memory.md R61, 30_encoding.md R91). -/

namespace Sys2Proof.Machine

open Sys2Proof

/-- `IO.NONE` (20_memory.md R61, R64; 30_encoding.md R91): a byte transaction gets no response, all-ones on a read and
nothing on a write; a wide one is decomposed into byte lanes, each decoded again. -/
def execIoNone (port : Port) (access : Access) (s : State) : StepOutcome :=
  match access with
  | .rd8 => complete (.val8 0xFF) s
  | .rd16 => complete16 (readLanes16 port s)
  | .rd32 => complete32 (readLanes32 port s)
  | .wr8 _ => complete .none s
  | .wr16 v => complete .none (writeLanes16 port v s)
  | .wr32 v => complete .none (writeLanes32 port v s)

end Sys2Proof.Machine
end

