-- ==== Sys2Proof/Machine/Registry.lean ====
section
/-! DEFINITION. The slot registry (41_slot_registry.md): INIT, REGISTER_SLOT, ADD_CARD. -/

namespace Sys2Proof.Machine

open Sys2Proof

/-- The state of the block after `INIT` (10_state.md R45), every field set. -/
def initialBlock (params : Params) (mech : Mech) (noSteer : Bool) : Block where
  initialised := true
  mech := mech
  noSteer := noSteer
  slots := Vector.replicate 32 Slot.empty
  nslots := 0
  dev2slot := Vector.replicate 32 none
  irqRoute := Vector.replicate 4 { irq := 0xFF, level := params.irqLevelInit }
  mirq := Vector.replicate 3 { enabled := false, irq := 0xFF }
  hold := Vector.replicate 16 0
  caReg := 0
  caFunc := 0
  caDev := 0
  caBus := 0
  caEn := false
  t2Func := 0
  t2Key := 0
  t2Bus := 0
  pmc := false
  elcr0 := 0
  elcr1 := 0
  elcrEn := params.elcrEnabledInit
  trc := 0

/-- `INIT(type)` (41_slot_registry.md R180): no event, whatever it discards. -/
def execInit (type : Byte) (s : State) : StepOutcome :=
  match initMech type with
  | none => refuse s
  | some mech => complete .none (withBlock (initialBlock s.params mech (initNoSteer type)) s)

/-- The device number and the descriptor `REGISTER_SLOT`'s operands give, if all are in their domain
(41_slot_registry.md R181, 30_encoding.md R107). -/
def slotOf (device cls inta intb intc intd : Byte) : Option (Fin 32 × Slot) :=
  match deviceNumber device, slotClass cls, pinRoute inta, pinRoute intb, pinRoute intc, pinRoute intd with
  | some d, some c, some ra, some rb, some rc, some rd =>
    some (d, { id := device, cls := some c, route := #v[ra, rb, rc, rd], dev := none })
  | _, _, _, _, _, _ => none

/-- A descriptor appended to the table and mapped from its device number (41_slot_registry.md R181). -/
def appendSlot (i : Fin 32) (d : Fin 32) (slot : Slot) (b : Block) : Block :=
  { b with slots := b.slots.set i slot, dev2slot := b.dev2slot.set d (some i), nslots := i.val + 1 }

/-- `REGISTER_SLOT(device, class, inta, intb, intc, intd)` (41_slot_registry.md R181). -/
def execRegisterSlot (device cls inta intb intc intd : Byte) (s : State) : StepOutcome :=
  if s.blk.initialised then
    match slotOf device cls inta intb intc intd with
    | none => refuse s
    | some (d, slot) =>
      if h : s.blk.nslots < 32 then complete .none (withBlock (appendSlot ⟨s.blk.nslots, h⟩ d slot s.blk) s)
      else refuse s
  else refuse s

/-- The first registered, unbound slot that matches, in registration order (41_slot_registry.md R183). -/
def freeSlot (a : AddType) (b : Block) : Option (Fin 32) :=
  (List.finRange 32).find? fun i => i.val < b.nslots && b.slots[i].dev.isNone && matchesSlot a b.slots[i]

/-- A device bound to a slot (41_slot_registry.md R183). -/
def bindSlot (i : Fin 32) (h : Handle) (b : Block) : Block :=
  { b with slots := b.slots.set i { b.slots[i] with dev := some h } }

/-- `ADD_CARD(add_type, h)` (41_slot_registry.md R183): the device number, or the failure value 0xFF. -/
def execAddCard (addType : Byte) (h : Handle) (s : State) : StepOutcome :=
  if s.blk.initialised then
    match addTypeOf addType with
    | none => complete (.val8 0xFF) s
    | some a =>
      match freeSlot a s.blk with
      | none => complete (.val8 0xFF) s
      | some i => complete (.val8 s.blk.slots[i].id) (withBlock (bindSlot i h s.blk) s)
  else complete (.val8 0xFF) s

end Sys2Proof.Machine
end

