-- ==== Sys2Proof/Machine/Router.lean ====
section
/-! DEFINITION. The interrupt router (42_interrupt_router.md): routing configuration, assert and clear for cards and for
mirror IRQs, and the level-or-edge query. -/

namespace Sys2Proof.Machine

open Sys2Proof

/-- What `Resolve` gives (42_interrupt_router.md R203). -/
inductive Resolved where
  | refuse
  | nothing
  | line (q : Fin 16) (level : Bool)
  deriving DecidableEq, Repr

/-- A resolved IRQ number: above 15 it names no line (42_interrupt_router.md R203 step 4). -/
def lineOrNothing (irq : Byte) (level : Bool) : Resolved :=
  match irqLine irq with
  | none => .nothing
  | some q => .line q level

/-- The IRQ number a slot's card reports at offset 0x3C of function 0, 0xFF for an unbound slot
(42_interrupt_router.md R205). -/
def noSteerIrq (i : Fin 32) (s : State) : Byte × State :=
  match s.blk.slots[i].dev with
  | none => (0xFF, s)
  | some h => devRead h 0 0x3C s

/-- `NoSteer(i)` with step 4 (42_interrupt_router.md R205, R203). -/
def resolveNoSteer (i : Fin 32) (s : State) : Resolved × State :=
  let (irq, s') := noSteerIrq i s
  match irqLine irq with
  | none => (.nothing, s')
  | some q =>
    let (level, s'') := noSteerLevel q s'
    (.line q level, s'')

/-- `Resolve(card, pin)` (42_interrupt_router.md R203). -/
def resolve (card pin : Byte) (s : State) : Resolved × State :=
  if s.blk.initialised then
    match intIndex pin with
    | none => (.refuse, s)
    | some k =>
      match deviceNumber card with
      | none => (.nothing, s)
      | some d =>
        match s.blk.dev2slot[d] with
        | none => (.nothing, s)
        | some i =>
          match routeIndex s.blk.slots[i].route[k] with
          | none => (.nothing, s)
          | some r =>
            if s.blk.noSteer then resolveNoSteer i s
            else (lineOrNothing (steer r s.blk).1 (steer r s.blk).2, s)
  else (.nothing, s)

/-- The hold bit of a `card` operand; only a card below 32 ever resolves (42_interrupt_router.md R206). -/
def cardOperandBit (card : Byte) : HoldMask := bit64 card.toNat

/-- `SET_IRQ(card, pin)` (42_interrupt_router.md R206). -/
def execSetIrq (card pin : Byte) (s : State) : StepOutcome :=
  match resolve card pin s with
  | (.line q level, s') => complete .none (assertLine q level (cardOperandBit card) s')
  | (.nothing, s') => complete .none s'
  | (.refuse, s') => refuse s'

/-- `CLEAR_IRQ(card, pin)` (42_interrupt_router.md R207). -/
def execClearIrq (card pin : Byte) (s : State) : StepOutcome :=
  match resolve card pin s with
  | (.line q level, s') => complete .none (releaseLine q level (cardOperandBit card) s')
  | (.nothing, s') => complete .none s'
  | (.refuse, s') => refuse s'

/-- The block with another routing entry. -/
def setRoute (k : Fin 4) (r : IrqRoute) (b : Block) : Block := { b with irqRoute := b.irqRoute.set k r }

/-- The block with another mirror-IRQ entry. -/
def setMirqEntry (m : Fin 3) (e : MirqEntry) (b : Block) : Block := { b with mirq := b.mirq.set m e }

/-- `SET_IRQ_ROUTING(pci_int, irq)` (42_interrupt_router.md R200): a value above 15 is stored as given. -/
def execSetIrqRouting (pciInt irq : Byte) (s : State) : StepOutcome :=
  if s.blk.initialised then
    match intIndex pciInt with
    | none => refuse s
    | some k => complete .none (withBlock (setRoute k { s.blk.irqRoute[k] with irq := irq } s.blk) s)
  else refuse s

/-- `SET_IRQ_LEVEL(pci_int, level)` (42_interrupt_router.md R201). -/
def execSetIrqLevel (pciInt : Byte) (level : Bool) (s : State) : StepOutcome :=
  if s.blk.initialised then
    match intIndex pciInt with
    | none => refuse s
    | some k => complete .none (withBlock (setRoute k { s.blk.irqRoute[k] with level := level } s.blk) s)
  else refuse s

/-- `ENABLE_MIRQ(mirq)` (42_interrupt_router.md R208). -/
def execEnableMirq (mirq : Byte) (s : State) : StepOutcome :=
  if s.blk.initialised then
    match mirqIndex mirq with
    | none => refuse s
    | some m => complete .none (withBlock (setMirqEntry m { s.blk.mirq[m] with enabled := true } s.blk) s)
  else refuse s

/-- `SET_MIRQ_ROUTING(mirq, irq)` (42_interrupt_router.md R209). -/
def execSetMirqRouting (mirq irq : Byte) (s : State) : StepOutcome :=
  if s.blk.initialised then
    match mirqIndex mirq with
    | none => refuse s
    | some m => complete .none (withBlock (setMirqEntry m { s.blk.mirq[m] with irq := irq } s.blk) s)
  else refuse s

/-- The line a mirror IRQ drives: none unless it is enabled and routed to 0-15 (42_interrupt_router.md R210). -/
def mirqLine (m : Fin 3) (b : Block) : Option (Fin 16) :=
  if b.mirq[m].enabled then irqLine b.mirq[m].irq else none

/-- `SET_MIRQ(mirq, level)` (42_interrupt_router.md R210). -/
def execSetMirq (mirq : Byte) (level : Bool) (s : State) : StepOutcome :=
  if s.blk.initialised then
    match mirqIndex mirq with
    | none => refuse s
    | some m =>
      match mirqLine m s.blk with
      | none => complete .none s
      | some q => complete .none (assertLine q level (mirqBit m) s)
  else refuse s

/-- `CLEAR_MIRQ(mirq, level)` (42_interrupt_router.md R211). -/
def execClearMirq (mirq : Byte) (level : Bool) (s : State) : StepOutcome :=
  if s.blk.initialised then
    match mirqIndex mirq with
    | none => refuse s
    | some m =>
      match mirqLine m s.blk with
      | none => complete .none s
      | some q => complete .none (releaseLine q level (mirqBit m) s)
  else refuse s

/-- `IRQ_IS_LEVEL(irq)` (42_interrupt_router.md R212). -/
def execIrqIsLevel (irq : Byte) (s : State) : StepOutcome :=
  if s.blk.initialised then
    match irqLine irq with
    | none => refuse s
    | some q =>
      let (level, s') := isLevel q s
      complete (.bit level) s'
  else refuse s

end Sys2Proof.Machine
end

