-- ==== Sys2Proof/Machine/Trc.lean ====
section
/-! DEFINITION. The TRC reset-control port (43_elcr_trc.md section 2) and RESET (section 3). -/

namespace Sys2Proof.Machine

open Sys2Proof

/-- `TRC.RD8` (43_elcr_trc.md R244). -/
def execTrcRd8 (s : State) : StepOutcome := complete8 (readByte .trc s)

/-- `TRC.RD16` (43_elcr_trc.md R245): taken whole, all-ones. -/
def execTrcRd16 (s : State) : StepOutcome :=
  if s.blk.initialised then complete (.val16 0xFFFF) s else complete16 (readLanes16 0x0CF9 s)

/-- `TRC.RD32` (43_elcr_trc.md R245): taken whole, all-ones. -/
def execTrcRd32 (s : State) : StepOutcome :=
  if s.blk.initialised then complete (.val32 0xFFFFFFFF) s else complete32 (readLanes32 0x0CF9 s)

/-- `TRC.WR8` (43_elcr_trc.md R247). -/
def execTrcWr8 (val : Byte) (s : State) : StepOutcome := complete .none (writeByte .trc val s)

/-- `TRC.WR16` (43_elcr_trc.md R246): taken whole and ignored. -/
def execTrcWr16 (val : Word) (s : State) : StepOutcome :=
  if s.blk.initialised then complete .none s else complete .none (writeLanes16 0x0CF9 val s)

/-- `TRC.WR32` (43_elcr_trc.md R246): taken whole and ignored. -/
def execTrcWr32 (val : Dword) (s : State) : StepOutcome :=
  if s.blk.initialised then complete .none s else complete .none (writeLanes32 0x0CF9 val s)

/-- `RESET` (43_elcr_trc.md R251). -/
def execReset (s : State) : StepOutcome :=
  if s.blk.initialised then complete .none (subsystemReset s) else refuse s

end Sys2Proof.Machine
end

