-- ==== Sys2Proof/Machine/Type1.lean ====
section
/-! DEFINITION. Type 1 configuration access (40_config_decoder.md section 2): T1.ADDR.RD/WR and T1.DATA. A wide
transaction whose native row is not present is decomposed into byte lanes (30_encoding.md R91). -/

namespace Sys2Proof.Machine

open Sys2Proof

/-- `T1.ADDR.RD` (40_config_decoder.md R136). -/
def execT1AddrRd (s : State) : StepOutcome :=
  if t1Ports s.blk then complete (.val32 (configAddress s.blk)) s else complete32 (readLanes32 0x0CF8 s)

/-- `T1.ADDR.WR` (40_config_decoder.md R135). -/
def execT1AddrWr (val : Dword) (s : State) : StepOutcome :=
  if t1Ports s.blk then complete .none (withBlock (latchAddress val s.blk) s)
  else complete .none (writeLanes32 0x0CF8 val s)

/-- `T1.DATA.RD8` (40_config_decoder.md R137). -/
def execT1DataRd8 (lane : BitVec 2) (s : State) : StepOutcome := complete8 (readByte (.configData lane) s)

/-- `T1.DATA.RD16` (40_config_decoder.md R138): the decomposition of 20_memory.md R64. -/
def execT1DataRd16 (lane : BitVec 2) (s : State) : StepOutcome := complete16 (readLanes16 (configDataPort lane) s)

/-- `T1.DATA.RD32` (40_config_decoder.md R138). -/
def execT1DataRd32 (lane : BitVec 2) (s : State) : StepOutcome := complete32 (readLanes32 (configDataPort lane) s)

/-- `T1.DATA.WR8` (40_config_decoder.md R139). -/
def execT1DataWr8 (lane : BitVec 2) (val : Byte) (s : State) : StepOutcome :=
  complete .none (writeByte (.configData lane) val s)

/-- `T1.DATA.WR16` (40_config_decoder.md R140): the decomposition of 20_memory.md R64. -/
def execT1DataWr16 (lane : BitVec 2) (val : Word) (s : State) : StepOutcome :=
  complete .none (writeLanes16 (configDataPort lane) val s)

/-- `T1.DATA.WR32` (40_config_decoder.md R140). -/
def execT1DataWr32 (lane : BitVec 2) (val : Dword) (s : State) : StepOutcome :=
  complete .none (writeLanes32 (configDataPort lane) val s)

end Sys2Proof.Machine
end

