-- ==== Sys2Proof/Machine/Type2.lean ====
section
/-! DEFINITION. Type 2 configuration access and the mechanism switch (40_config_decoder.md sections 3 and 4): T2.CSE,
T2.BUS, PMC and T2.WIN. -/

namespace Sys2Proof.Machine

open Sys2Proof

/-- `T2.CSE.RD` (40_config_decoder.md R142). -/
def execT2CseRd (s : State) : StepOutcome := complete8 (readByte .cse s)

/-- `T2.CSE.WR` (40_config_decoder.md R141). -/
def execT2CseWr (val : Byte) (s : State) : StepOutcome := complete .none (writeByte .cse val s)

/-- `T2.BUS.RD` (40_config_decoder.md R144). -/
def execT2BusRd (s : State) : StepOutcome := complete8 (readByte .bus s)

/-- `T2.BUS.WR` (40_config_decoder.md R143). -/
def execT2BusWr (val : Byte) (s : State) : StepOutcome := complete .none (writeByte .bus val s)

/-- `PMC.RD` (40_config_decoder.md R151). -/
def execPmcRd (s : State) : StepOutcome := complete8 (readByte .pmc s)

/-- `PMC.WR` (40_config_decoder.md R150). -/
def execPmcWr (val : Byte) (s : State) : StepOutcome := complete .none (writeByte .pmc val s)

/-- `T2.WIN.RD8` (40_config_decoder.md R145). -/
def execT2WinRd8 (dev : BitVec 4) (reg : Byte) (s : State) : StepOutcome := complete8 (readByte (.window dev reg) s)

/-- `T2.WIN.RD16` (40_config_decoder.md R147): the decomposition of 20_memory.md R64. -/
def execT2WinRd16 (dev : BitVec 4) (reg : Byte) (s : State) : StepOutcome :=
  complete16 (readLanes16 (windowPort dev reg) s)

/-- `T2.WIN.RD32` (40_config_decoder.md R147). -/
def execT2WinRd32 (dev : BitVec 4) (reg : Byte) (s : State) : StepOutcome :=
  complete32 (readLanes32 (windowPort dev reg) s)

/-- `T2.WIN.WR8` (40_config_decoder.md R146). -/
def execT2WinWr8 (dev : BitVec 4) (reg val : Byte) (s : State) : StepOutcome :=
  complete .none (writeByte (.window dev reg) val s)

/-- `T2.WIN.WR16` (40_config_decoder.md R147): the decomposition of 20_memory.md R64. -/
def execT2WinWr16 (dev : BitVec 4) (reg : Byte) (val : Word) (s : State) : StepOutcome :=
  complete .none (writeLanes16 (windowPort dev reg) val s)

/-- `T2.WIN.WR32` (40_config_decoder.md R147). -/
def execT2WinWr32 (dev : BitVec 4) (reg : Byte) (val : Dword) (s : State) : StepOutcome :=
  complete .none (writeLanes32 (windowPort dev reg) val s)

end Sys2Proof.Machine
end

