-- ==== Sys2Proof/Machine/Dispatch.lean ====
section
/-! DEFINITION. The meaning of every operation: one arm per constructor of Instr. -/

namespace Sys2Proof.Machine

open Sys2Proof

def exec (i : Instr) (s : State) : Host.Outcome State Fault Refusal :=
  match i with
  | .elcrRd reg => Sys2Proof.Machine.execElcrRd reg s
  | .elcrWr reg val => Sys2Proof.Machine.execElcrWr reg val s
  | .t1AddrRd => Sys2Proof.Machine.execT1AddrRd s
  | .t1AddrWr val => Sys2Proof.Machine.execT1AddrWr val s
  | .t2CseRd => Sys2Proof.Machine.execT2CseRd s
  | .t2CseWr val => Sys2Proof.Machine.execT2CseWr val s
  | .trcRd8 => Sys2Proof.Machine.execTrcRd8 s
  | .trcRd16 => Sys2Proof.Machine.execTrcRd16 s
  | .trcRd32 => Sys2Proof.Machine.execTrcRd32 s
  | .trcWr8 val => Sys2Proof.Machine.execTrcWr8 val s
  | .trcWr16 val => Sys2Proof.Machine.execTrcWr16 val s
  | .trcWr32 val => Sys2Proof.Machine.execTrcWr32 val s
  | .t2BusRd => Sys2Proof.Machine.execT2BusRd s
  | .t2BusWr val => Sys2Proof.Machine.execT2BusWr val s
  | .pmcRd => Sys2Proof.Machine.execPmcRd s
  | .pmcWr val => Sys2Proof.Machine.execPmcWr val s
  | .t1DataRd8 lane => Sys2Proof.Machine.execT1DataRd8 lane s
  | .t1DataRd16 lane => Sys2Proof.Machine.execT1DataRd16 lane s
  | .t1DataRd32 lane => Sys2Proof.Machine.execT1DataRd32 lane s
  | .t1DataWr8 lane val => Sys2Proof.Machine.execT1DataWr8 lane val s
  | .t1DataWr16 lane val => Sys2Proof.Machine.execT1DataWr16 lane val s
  | .t1DataWr32 lane val => Sys2Proof.Machine.execT1DataWr32 lane val s
  | .t2WinRd8 dev reg => Sys2Proof.Machine.execT2WinRd8 dev reg s
  | .t2WinRd16 dev reg => Sys2Proof.Machine.execT2WinRd16 dev reg s
  | .t2WinRd32 dev reg => Sys2Proof.Machine.execT2WinRd32 dev reg s
  | .t2WinWr8 dev reg val => Sys2Proof.Machine.execT2WinWr8 dev reg val s
  | .t2WinWr16 dev reg val => Sys2Proof.Machine.execT2WinWr16 dev reg val s
  | .t2WinWr32 dev reg val => Sys2Proof.Machine.execT2WinWr32 dev reg val s
  | .ioNone port access => Sys2Proof.Machine.execIoNone port access s
  | .init type => Sys2Proof.Machine.execInit type s
  | .registerSlot device cls inta intb intc intd => Sys2Proof.Machine.execRegisterSlot device cls inta intb intc intd s
  | .addCard addType h => Sys2Proof.Machine.execAddCard addType h s
  | .setIrqRouting pciInt irq => Sys2Proof.Machine.execSetIrqRouting pciInt irq s
  | .setIrqLevel pciInt level => Sys2Proof.Machine.execSetIrqLevel pciInt level s
  | .setIrq card pin => Sys2Proof.Machine.execSetIrq card pin s
  | .clearIrq card pin => Sys2Proof.Machine.execClearIrq card pin s
  | .enableMirq mirq => Sys2Proof.Machine.execEnableMirq mirq s
  | .setMirqRouting mirq irq => Sys2Proof.Machine.execSetMirqRouting mirq irq s
  | .setMirq mirq level => Sys2Proof.Machine.execSetMirq mirq level s
  | .clearMirq mirq level => Sys2Proof.Machine.execClearMirq mirq level s
  | .elcrSetEnabled en => Sys2Proof.Machine.execElcrSetEnabled en s
  | .reset => Sys2Proof.Machine.execReset s
  | .irqIsLevel irq => Sys2Proof.Machine.execIrqIsLevel irq s

end Sys2Proof.Machine
end

