-- ==== Sys2Proof/Machine/Fetch.lean ====
section
/-! DEFINITION. Taking the next operation an agent has presented (00_scope.md R7, R8; 20_memory.md R72). The block
fetches no instructions (10_state.md R21): its operations come to it, and `pending` is their total order (log 1). -/

namespace Sys2Proof.Machine

open Sys2Proof

/-- What the head of the pending operations is. -/
inductive Fetched where
  /-- No operation is pending. -/
  | idle
  /-- An operation, and the state with it taken. -/
  | operation (i : Instr) (s : State)
  /-- A sideband request that 30_encoding.md R102 refuses, and the state with it taken. -/
  | refusedCommand (s : State)
  /-- A request that is no operation of the block. -/
  | notAnOperation (why : DecodeError)
  deriving DecidableEq, Repr

/-- The requests that 30_encoding.md R102 gives the behaviour "refuse": an unknown command code and an operand outside
its domain. -/
def isRefusedCommand : DecodeError → Bool
  | .unknownCommand => true
  | .operandNotABit => true
  | .noSuchSize => false
  | .strayBits => false
  | .wrongLength => false

/-- The oldest pending request, decoded and taken. -/
def fetch (s : State) : Fetched :=
  match s.pending with
  | [] => .idle
  | r :: rest =>
    match decode r.format r.bytes with
    | .instr i => .operation i { s with pending := rest }
    | .error e => if isRefusedCommand e then .refusedCommand { s with pending := rest } else .notAnOperation e

/-- A request presented ahead of the others. -/
def presentNext (r : Request) (s : State) : State := { s with pending := r :: s.pending }

end Sys2Proof.Machine
end

