-- ==== Sys2Proof/Machine/Step.lean ====
section
/-! DEFINITION. One step of the machine: the oldest pending operation, run to completion (00_scope.md R7). -/

namespace Sys2Proof.Machine

open Sys2Proof

/-- One step (00_scope.md R7). "With no operation arriving, no state changes and no output is produced." -/
def step (s : State) : Host.Outcome State Fault Refusal :=
  match fetch s with
  | .idle => .next s
  | .operation i s' => exec i s'
  | .refusedCommand s' => refuse s'
  | .notAnOperation why => .refused (.notAnOperation why)

/-- The state with the operation whose bits are `w` presented, so that the next step runs it (log 1). -/
def State.withFetchWord (s : State) (nbits w : Nat) : State :=
  presentNext { format := tableFormat nbits, bytes := tableBytes nbits w } s

end Sys2Proof.Machine
end

