-- ==== Sys2Proof/Safety.lean ====
section
/-! DEFINITION. The terms the claims are stated in: the invariant of 10_state.md R41, the outcome of an operation as
00_scope.md R7 gives it (state, result, outputs), the host transaction read off the spec's tables by port number
(30_encoding.md R91, R92; 20_memory.md R63, R64), and which operation may write which field and emit which event. -/

namespace Sys2Proof.Machine

open Sys2Proof

/-- The invariants of 10_state.md R41 (a) to (g), and two that R24, R25 and R181 give: a registered descriptor's device
number is 0-31, an unregistered descriptor is empty. -/
structure Invariant (b : Block) : Prop where
  nslots_le : b.nslots ≤ 32
  mapped : ∀ d i : Fin 32, b.dev2slot[d] = some i → i.val < b.nslots ∧ b.slots[i].id.toNat = d.val
  bound_registered : ∀ i : Fin 32, b.slots[i].dev.isSome = true → i.val < b.nslots
  hold_width : ∀ q : Fin 16, b.hold[q].toNat < 2 ^ 33
  elcr_fixed : b.elcr0 &&& 0x07 = 0 ∧ b.elcr1 &&& 0x21 = 0
  type1_plain : b.mech = .t1 → b.pmc = false ∧ b.t2Key = 0 ∧ b.t2Func = 0 ∧ b.t2Bus = 0
  pmc_closes : b.pmc = true → b.t2Key = 0
  registered_id : ∀ i : Fin 32, i.val < b.nslots → b.slots[i].id.toNat < 32
  unregistered_empty : ∀ i : Fin 32, b.nslots ≤ i.val → b.slots[i] = Slot.empty

/-- The event is a call of a device's read port. -/
def isDevReadCall : Event → Bool
  | .devReadCall _ _ _ => true
  | .devWrite _ _ _ _ => false
  | .picEdge _ => false
  | .picLevel _ => false
  | .picClear _ => false
  | .strobe _ => false

/-- The state after an operation (00_scope.md R7): the block's new state, the events in order, the result. Each device
read among the events takes one of the environment's answers; all else is as before. -/
def after (s : State) (b : Block) (es : List Event) (r : Result) : State :=
  { s with
    blk := b
    env := { s.env with devReads := s.env.devReads + es.countP isDevReadCall }
    trace := s.trace ++ es.map .event ++ [.result r] }

/-- What the device answers to the `k`-th `DevRead` from now on, counted from 0 (00_scope.md R9): any value. -/
def answerAt (s : State) (k : Nat) (h : Handle) (func : BitVec 3) (addr : Byte) : Byte :=
  s.env.devScript[s.env.devReads + k]?.getD (Config.devAnswer (s.env.devReads + k) h func addr)

/-- A device number reaches a bound device (40_config_decoder.md R131): it is mapped to a slot whose device is `h`. -/
def Reaches (b : Block) (dev : BitVec 5) (h : Handle) : Prop :=
  ∃ i : Fin 32, b.dev2slot[dev.toFin] = some i ∧ b.slots[i].dev = some h

/-- The bytes the device at `h` gives to the lanes of a CONFIG_DATA read of `n` bytes from lane `lane`; a lane past
0x0CFF reads all-ones (40_config_decoder.md R138). -/
def configDataBytes (s : State) (h : Handle) (lane n : Nat) : List Byte :=
  (List.range n).map fun k =>
    if lane + k < 4 then answerAt s k h s.blk.caFunc (s.blk.caReg ||| BitVec.ofNat 8 (lane + k)) else 0xFF

/-- The device calls of those lanes, ascending (40_config_decoder.md R138). -/
def configDataCalls (s : State) (h : Handle) (lane n : Nat) : List Event :=
  (List.range (min n (4 - lane))).map fun k =>
    .devReadCall h s.blk.caFunc (s.blk.caReg ||| BitVec.ofNat 8 (lane + k))

/-- The device calls of a CONFIG_DATA write of the bytes `vs` from lane `lane`; a lane past 0x0CFF is dropped
(40_config_decoder.md R140). -/
def configDataWrites (b : Block) (h : Handle) (lane : Nat) (vs : List Byte) : List Event :=
  (vs.take (4 - lane)).zipIdx.map fun (v, k) =>
    .devWrite h b.caFunc (b.caReg ||| BitVec.ofNat 8 (lane + k)) v

/-- The bytes the device at `h` gives to a window read of `n` bytes from register `reg` that stays inside the device. -/
def windowBytes (s : State) (h : Handle) (reg n : Nat) : List Byte :=
  (List.range n).map fun k => answerAt s k h s.blk.t2Func (BitVec.ofNat 8 (reg + k))

/-- The device calls of those lanes, ascending (40_config_decoder.md R147). -/
def windowCalls (b : Block) (h : Handle) (reg n : Nat) : List Event :=
  (List.range n).map fun k => .devReadCall h b.t2Func (BitVec.ofNat 8 (reg + k))

/-- The device calls of a window write of the bytes `vs` from register `reg` that stays inside the device. -/
def windowWrites (b : Block) (h : Handle) (reg : Nat) (vs : List Byte) : List Event :=
  vs.zipIdx.map fun (v, k) => .devWrite h b.t2Func (BitVec.ofNat 8 (reg + k)) v

/-- The result an outcome observed last, if the operation completed. -/
def resultOf : StepOutcome → Option Result
  | .next t =>
    match t.trace.getLast? with
    | some (.result r) => some r
    | _ => none
  | .fault _ => none
  | .refused _ => none

/-! ## The host transaction, by port number -/

/-- `IoRead(p, 1)`: the claim table of 30_encoding.md R92 by port number. -/
def tableRead8 (p : Port) (s : State) : Byte × State :=
  let n := p.toNat
  let b := s.blk
  if n = 0x04D0 ∧ b.initialised then (b.elcr0, s)
  else if n = 0x04D1 ∧ b.initialised then (b.elcr1, s)
  else if n = 0x0CF8 ∧ t2Ports b then (cseValue b, s)
  else if n = 0x0CF9 ∧ b.initialised then (b.trc &&& s.params.trcReadMask, s)
  else if n = 0x0CFA ∧ t2Ports b then (b.t2Bus, s)
  else if n = 0x0CFB ∧ b.initialised ∧ b.mech = .t2 then (if b.pmc then 1 else 0, s)
  else if 0x0CFC ≤ n ∧ n ≤ 0x0CFF ∧ t1Ports b then
    if b.caEn = true ∧ b.caBus = 0 then cfgRead8 b.caDev b.caFunc (b.caReg ||| BitVec.ofNat 8 (n % 4)) s
    else (0xFF, s)
  else if 0xC000 ≤ n ∧ n ≤ 0xCFFF ∧ windowOpen b then
    if b.t2Bus = 0 then cfgRead8 (BitVec.ofNat 5 (n / 256 % 16)) b.t2Func (BitVec.ofNat 8 (n % 256)) s
    else (0xFF, s)
  else (0xFF, s)

/-- `IoWrite(p, 1, v)`: the claim table of 30_encoding.md R92 by port number. -/
def tableWrite8 (p : Port) (v : Byte) (s : State) : State :=
  let n := p.toNat
  let b := s.blk
  if n = 0x04D0 ∧ b.initialised then withBlock { b with elcr0 := v &&& 0xF8 } s
  else if n = 0x04D1 ∧ b.initialised then withBlock { b with elcr1 := v &&& 0xDE } s
  else if n = 0x0CF8 ∧ t2Ports b then
    withBlock { b with t2Func := BitVec.ofNat 3 (v.toNat / 2), t2Key := BitVec.ofNat 4 (v.toNat / 16) } s
  else if n = 0x0CF9 ∧ b.initialised then writeTrc v s
  else if n = 0x0CFA ∧ t2Ports b then withBlock { b with t2Bus := v } s
  else if n = 0x0CFB ∧ b.initialised ∧ b.mech = .t2 then
    withBlock { clearDecoder b with pmc := v.toNat % 2 == 1 } s
  else if 0x0CFC ≤ n ∧ n ≤ 0x0CFF ∧ t1Ports b then
    if b.caEn = true ∧ b.caBus = 0 then cfgWrite8 b.caDev b.caFunc (b.caReg ||| BitVec.ofNat 8 (n % 4)) v s else s
  else if 0xC000 ≤ n ∧ n ≤ 0xCFFF ∧ windowOpen b then
    if b.t2Bus = 0 then cfgWrite8 (BitVec.ofNat 5 (n / 256 % 16)) b.t2Func (BitVec.ofNat 8 (n % 256)) v s else s
  else s

/-- The lanes of a decomposed read, in ascending order (20_memory.md R64). -/
def tableReadLanes : Nat → Port → State → List Byte × State
  | 0, _, s => ([], s)
  | n + 1, p, s =>
    let (v, s') := tableRead8 p s
    let (vs, s'') := tableReadLanes n (p + 1) s'
    (v :: vs, s'')

/-- The lanes of a decomposed write, in ascending order (20_memory.md R64). -/
def tableWriteLanes : List Byte → Port → State → State
  | [], _, s => s
  | v :: vs, p, s => tableWriteLanes vs (p + 1) (tableWrite8 p v s)

/-- The number whose bytes are these, least significant first (20_memory.md R62). -/
def laneValue : List Byte → Nat
  | [] => 0
  | v :: vs => v.toNat + 256 * laneValue vs

/-- The block claims the port for byte transactions in this state (30_encoding.md R92). -/
def ClaimsByte (b : Block) (n : Nat) : Prop :=
  (b.initialised = true ∧ (n = 0x04D0 ∨ n = 0x04D1 ∨ n = 0x0CF9)) ∨
  (b.initialised = true ∧ b.mech = .t2 ∧ b.pmc = false ∧ (n = 0x0CF8 ∨ n = 0x0CFA)) ∨
  (b.initialised = true ∧ b.mech = .t2 ∧ n = 0x0CFB) ∨
  (b.initialised = true ∧ (b.mech = .t1 ∨ b.pmc = true) ∧ 0x0CFC ≤ n ∧ n ≤ 0x0CFF) ∨
  (b.initialised = true ∧ b.mech = .t2 ∧ b.pmc = false ∧ b.t2Key ≠ 0 ∧ 0xC000 ≤ n ∧ n ≤ 0xCFFF)

/-- The decode order of 30_encoding.md R91: a native handler (20_memory.md R63), else the decomposition, else the byte
handler or no response. -/
def hostTransaction (p : Port) (a : Access) (s : State) : StepOutcome :=
  match a with
  | .rd8 => complete (.val8 (tableRead8 p s).1) (tableRead8 p s).2
  | .rd16 =>
    if p = 0x0CF9 ∧ s.blk.initialised then complete (.val16 0xFFFF) s
    else complete (.val16 (BitVec.ofNat 16 (laneValue (tableReadLanes 2 p s).1))) (tableReadLanes 2 p s).2
  | .rd32 =>
    if p = 0x0CF8 ∧ t1Ports s.blk then complete (.val32 (configAddress s.blk)) s
    else if p = 0x0CF9 ∧ s.blk.initialised then complete (.val32 0xFFFFFFFF) s
    else complete (.val32 (BitVec.ofNat 32 (laneValue (tableReadLanes 4 p s).1))) (tableReadLanes 4 p s).2
  | .wr8 v => complete .none (tableWrite8 p v s)
  | .wr16 v =>
    if p = 0x0CF9 ∧ s.blk.initialised then complete .none s
    else complete .none (tableWriteLanes (littleEndian 2 v.toNat) p s)
  | .wr32 v =>
    if p = 0x0CF8 ∧ t1Ports s.blk then complete .none (withBlock (latchAddress v s.blk) s)
    else if p = 0x0CF9 ∧ s.blk.initialised then complete .none s
    else complete .none (tableWriteLanes (littleEndian 4 v.toNat) p s)

/-! ## What the host does not see, and the numbers of the setup interface -/

/-- The item of an observation is a primitive of the interrupt controller. -/
def isPicEvent : Obs → Bool
  | .event (.devReadCall _ _ _) => false
  | .event (.devWrite _ _ _ _) => false
  | .event (.picEdge _) => true
  | .event (.picLevel _) => true
  | .event (.picClear _) => true
  | .event (.strobe _) => false
  | .result _ => false

/-- Two states differ only in what no I/O port shows (10_state.md R42): the hold masks, the routing table, the mirror
table, `elcr_en` and `no_steer`, and in the interrupt primitives already emitted, through which R42 lets the hold masks
be seen. -/
structure SameToHost (s s' : State) : Prop where
  blk : { s.blk with
            hold := s'.blk.hold, irqRoute := s'.blk.irqRoute, mirq := s'.blk.mirq
            elcrEn := s'.blk.elcrEn, noSteer := s'.blk.noSteer } = s'.blk
  params : s.params = s'.params
  pending : s.pending = s'.pending
  env : s.env = s'.env
  trace : s.trace.filter (fun o => !isPicEvent o) = s'.trace.filter (fun o => !isPicEvent o)

/-- The class each number stands for, from 0 (30_encoding.md R107). -/
def classNumbers : List SlotClass := [.normal, .video, .scsi, .sound, .northbridge, .southbridge, .onboard]

/-- The pin wiring each number stands for, from 0 (30_encoding.md R107). -/
def wiringNumbers : List PinRoute := [.disabled, .inta, .intb, .intc, .intd]

/-- The add type with this number matches a slot (41_slot_registry.md R184, 30_encoding.md R107): 0x00-0x1F by the
device number, whatever the class; 0x80-0x86 by the class of number 0-6. -/
def MatchesNumber (n : Nat) (slot : Slot) : Prop :=
  (n < 32 ∧ slot.id.toNat = n) ∨ ∃ c : SlotClass, 0x80 ≤ n ∧ classNumbers[n - 0x80]? = some c ∧ slot.cls = some c

/-! ## Who writes what, who emits what -/

/-- The fields of the block, each on its own (10_state.md R22-R34). `slotBinding` is `bound` with `dev`. -/
inductive Field where
  | initialised
  | mech
  | noSteer
  | slotId
  | slotClass
  | slotRoute
  | slotBinding
  | nslots
  | dev2slot
  | routeIrq
  | routeLevel
  | mirqEnabled
  | mirqIrq
  | hold
  | caReg
  | caFunc
  | caDev
  | caBus
  | caEn
  | t2Func
  | t2Key
  | t2Bus
  | pmc
  | elcr0
  | elcr1
  | elcrEn
  | trc
  deriving DecidableEq, Repr

/-- Two blocks agree on a field, in every entry of its table where it has one. -/
def sameField (f : Field) (b b' : Block) : Prop :=
  match f with
  | .initialised => b.initialised = b'.initialised
  | .mech => b.mech = b'.mech
  | .noSteer => b.noSteer = b'.noSteer
  | .slotId => ∀ i : Fin 32, b.slots[i].id = b'.slots[i].id
  | .slotClass => ∀ i : Fin 32, b.slots[i].cls = b'.slots[i].cls
  | .slotRoute => ∀ i : Fin 32, b.slots[i].route = b'.slots[i].route
  | .slotBinding => ∀ i : Fin 32, b.slots[i].dev = b'.slots[i].dev
  | .nslots => b.nslots = b'.nslots
  | .dev2slot => b.dev2slot = b'.dev2slot
  | .routeIrq => ∀ k : Fin 4, b.irqRoute[k].irq = b'.irqRoute[k].irq
  | .routeLevel => ∀ k : Fin 4, b.irqRoute[k].level = b'.irqRoute[k].level
  | .mirqEnabled => ∀ m : Fin 3, b.mirq[m].enabled = b'.mirq[m].enabled
  | .mirqIrq => ∀ m : Fin 3, b.mirq[m].irq = b'.mirq[m].irq
  | .hold => b.hold = b'.hold
  | .caReg => b.caReg = b'.caReg
  | .caFunc => b.caFunc = b'.caFunc
  | .caDev => b.caDev = b'.caDev
  | .caBus => b.caBus = b'.caBus
  | .caEn => b.caEn = b'.caEn
  | .t2Func => b.t2Func = b'.t2Func
  | .t2Key => b.t2Key = b'.t2Key
  | .t2Bus => b.t2Bus = b'.t2Bus
  | .pmc => b.pmc = b'.pmc
  | .elcr0 => b.elcr0 = b'.elcr0
  | .elcr1 => b.elcr1 = b'.elcr1
  | .elcrEn => b.elcrEn = b'.elcrEn
  | .trc => b.trc = b'.trc

/-- The Type 1 latch (10_state.md R30). -/
def latchFields : List Field := [.caReg, .caFunc, .caDev, .caBus, .caEn]

/-- The fields a write of PMC may change (40_config_decoder.md R150). -/
def pmcWrites : List Field := .pmc :: .t2Func :: .t2Key :: .t2Bus :: latchFields

/-- The fields `RESET` may change (10_state.md R46). -/
def resetWrites : List Field := .hold :: .elcr0 :: .elcr1 :: pmcWrites

/-- The fields a byte write of TRC may change: its own, and through the cascade those of `RESET` (43_elcr_trc.md R247,
R249, R251). -/
def trcWrites : List Field := .trc :: resetWrites

/-- The fields a byte write at a port may change (10_state.md R35). CONFIG_DATA and the window write no state. -/
def portWrites (p : Port) : List Field :=
  if p = 0x04D0 then [.elcr0]
  else if p = 0x04D1 then [.elcr1]
  else if p = 0x0CF8 then [.t2Func, .t2Key]
  else if p = 0x0CF9 then trcWrites
  else if p = 0x0CFA then [.t2Bus]
  else if p = 0x0CFB then pmcWrites
  else []

/-- The fields an operation may write (the "written by" of 10_state.md R22-R34 and the rules of the operations). A wide
write with no native handler may write what its lanes write (20_memory.md R64): 32 bits at 0x0CF8 are the latch, or the
lanes CSE, TRC, bus number and PMC. `REGISTER_SLOT` sets the new descriptor's `bound` to false (41_slot_registry.md
R181). -/
def writers : Instr → List Field
  | .elcrRd _ => []
  | .elcrWr reg _ => if reg = 0 then [.elcr0] else [.elcr1]
  | .t1AddrRd => []
  | .t1AddrWr _ => trcWrites
  | .t2CseRd => []
  | .t2CseWr _ => [.t2Func, .t2Key]
  | .trcRd8 => []
  | .trcRd16 => []
  | .trcRd32 => []
  | .trcWr8 _ => trcWrites
  | .trcWr16 _ => []
  | .trcWr32 _ => []
  | .t2BusRd => []
  | .t2BusWr _ => [.t2Bus]
  | .pmcRd => []
  | .pmcWr _ => pmcWrites
  | .t1DataRd8 _ => []
  | .t1DataRd16 _ => []
  | .t1DataRd32 _ => []
  | .t1DataWr8 _ _ => []
  | .t1DataWr16 _ _ => []
  | .t1DataWr32 _ _ => []
  | .t2WinRd8 _ _ => []
  | .t2WinRd16 _ _ => []
  | .t2WinRd32 _ _ => []
  | .t2WinWr8 _ _ _ => []
  | .t2WinWr16 _ _ _ => []
  | .t2WinWr32 _ _ _ => []
  | .ioNone port access =>
    match access with
    | .rd8 => []
    | .rd16 => []
    | .rd32 => []
    | .wr8 _ => []
    | .wr16 _ => portWrites port ++ portWrites (port + 1)
    | .wr32 _ => portWrites port ++ portWrites (port + 1) ++ portWrites (port + 2) ++ portWrites (port + 3)
  | .init _ =>
    [.initialised, .mech, .noSteer, .slotId, .slotClass, .slotRoute, .slotBinding, .nslots, .dev2slot, .routeIrq,
      .routeLevel, .mirqEnabled, .mirqIrq, .elcrEn] ++ trcWrites
  | .registerSlot _ _ _ _ _ _ => [.slotId, .slotClass, .slotRoute, .slotBinding, .nslots, .dev2slot]
  | .addCard _ _ => [.slotBinding]
  | .setIrqRouting _ _ => [.routeIrq]
  | .setIrqLevel _ _ => [.routeLevel]
  | .setIrq _ _ => [.hold]
  | .clearIrq _ _ => [.hold]
  | .enableMirq _ => [.mirqEnabled]
  | .setMirqRouting _ _ => [.mirqIrq]
  | .setMirq _ _ => [.hold]
  | .clearMirq _ _ => [.hold]
  | .elcrSetEnabled _ => [.elcrEn]
  | .reset => resetWrites
  | .irqIsLevel _ => []

/-- The kinds of output event (00_scope.md R10). -/
inductive EventKind where
  | devReadCall
  | devWrite
  | picEdge
  | picLevel
  | picClear
  | strobe
  deriving DecidableEq, Repr

/-- The kind of an event. -/
def Event.kind : Event → EventKind
  | .devReadCall _ _ _ => .devReadCall
  | .devWrite _ _ _ _ => .devWrite
  | .picEdge _ => .picEdge
  | .picLevel _ => .picLevel
  | .picClear _ => .picClear
  | .strobe _ => .strobe

/-- The kinds of event an operation may emit, by the rules of the operations. -/
def emitters : Instr → List EventKind
  | .elcrRd _ => []
  | .elcrWr _ _ => []
  | .t1AddrRd => []
  | .t1AddrWr _ => [.strobe, .picClear]
  | .t2CseRd => []
  | .t2CseWr _ => []
  | .trcRd8 => []
  | .trcRd16 => []
  | .trcRd32 => []
  | .trcWr8 _ => [.strobe, .picClear]
  | .trcWr16 _ => []
  | .trcWr32 _ => []
  | .t2BusRd => []
  | .t2BusWr _ => []
  | .pmcRd => []
  | .pmcWr _ => []
  | .t1DataRd8 _ => [.devReadCall]
  | .t1DataRd16 _ => [.devReadCall]
  | .t1DataRd32 _ => [.devReadCall]
  | .t1DataWr8 _ _ => [.devWrite]
  | .t1DataWr16 _ _ => [.devWrite]
  | .t1DataWr32 _ _ => [.devWrite]
  | .t2WinRd8 _ _ => [.devReadCall]
  | .t2WinRd16 _ _ => [.devReadCall]
  | .t2WinRd32 _ _ => [.devReadCall]
  | .t2WinWr8 _ _ _ => [.devWrite]
  | .t2WinWr16 _ _ _ => [.devWrite]
  | .t2WinWr32 _ _ _ => [.devWrite]
  | .ioNone _ access =>
    match access with
    | .rd8 => []
    | .rd16 => [.devReadCall]
    | .rd32 => [.devReadCall]
    | .wr8 _ => []
    | .wr16 _ => [.devWrite, .strobe, .picClear]
    | .wr32 _ => [.devWrite, .strobe, .picClear]
  | .init _ => []
  | .registerSlot _ _ _ _ _ _ => []
  | .addCard _ _ => []
  | .setIrqRouting _ _ => []
  | .setIrqLevel _ _ => []
  | .setIrq _ _ => [.devReadCall, .picEdge, .picLevel]
  | .clearIrq _ _ => [.devReadCall, .picClear]
  | .enableMirq _ => []
  | .setMirqRouting _ _ => []
  | .setMirq _ _ => [.picEdge, .picLevel]
  | .clearMirq _ _ => [.picClear]
  | .elcrSetEnabled _ => []
  | .reset => [.picClear]
  | .irqIsLevel _ => []

/-- What an operation other than `INIT` returns while the block is not initialised: an unclaimed read is all-ones
(20_memory.md R61), `ADD_CARD` fails with 0xFF (41_slot_registry.md R183), the others return nothing. -/
def absentResult : Instr → Result
  | .elcrRd _ => .val8 0xFF
  | .elcrWr _ _ => .none
  | .t1AddrRd => .val32 0xFFFFFFFF
  | .t1AddrWr _ => .none
  | .t2CseRd => .val8 0xFF
  | .t2CseWr _ => .none
  | .trcRd8 => .val8 0xFF
  | .trcRd16 => .val16 0xFFFF
  | .trcRd32 => .val32 0xFFFFFFFF
  | .trcWr8 _ => .none
  | .trcWr16 _ => .none
  | .trcWr32 _ => .none
  | .t2BusRd => .val8 0xFF
  | .t2BusWr _ => .none
  | .pmcRd => .val8 0xFF
  | .pmcWr _ => .none
  | .t1DataRd8 _ => .val8 0xFF
  | .t1DataRd16 _ => .val16 0xFFFF
  | .t1DataRd32 _ => .val32 0xFFFFFFFF
  | .t1DataWr8 _ _ => .none
  | .t1DataWr16 _ _ => .none
  | .t1DataWr32 _ _ => .none
  | .t2WinRd8 _ _ => .val8 0xFF
  | .t2WinRd16 _ _ => .val16 0xFFFF
  | .t2WinRd32 _ _ => .val32 0xFFFFFFFF
  | .t2WinWr8 _ _ _ => .none
  | .t2WinWr16 _ _ _ => .none
  | .t2WinWr32 _ _ _ => .none
  | .ioNone _ access =>
    match access with
    | .rd8 => .val8 0xFF
    | .rd16 => .val16 0xFFFF
    | .rd32 => .val32 0xFFFFFFFF
    | .wr8 _ => .none
    | .wr16 _ => .none
    | .wr32 _ => .none
  | .init _ => .none
  | .registerSlot _ _ _ _ _ _ => .none
  | .addCard _ _ => .val8 0xFF
  | .setIrqRouting _ _ => .none
  | .setIrqLevel _ _ => .none
  | .setIrq _ _ => .none
  | .clearIrq _ _ => .none
  | .enableMirq _ => .none
  | .setMirqRouting _ _ => .none
  | .setMirq _ _ => .none
  | .clearMirq _ _ => .none
  | .elcrSetEnabled _ => .none
  | .reset => .none
  | .irqIsLevel _ => .none

/-- Operations run one after the other from a state, as long as each completes (20_memory.md R72). -/
def runAll : List Instr → State → State
  | [], s => s
  | i :: is, s =>
    match exec i s with
    | .next t => runAll is t
    | .fault _ => s
    | .refused _ => s

/-- The events of an observation from a position on. -/
def eventsSince (n : Nat) (t : State) : List Event :=
  (t.trace.drop n).filterMap fun o => match o with
    | .event e => some e
    | .result _ => none

/-- In steering mode, card `card` with pin `pin` is wired to line `q` with this level flag: `Resolve` gives (q, level)
(42_interrupt_router.md R203, R204). -/
def SteersTo (b : Block) (card pin : Byte) (q : Fin 16) (level : Bool) : Prop :=
  b.initialised = true ∧ b.noSteer = false ∧
    ∃ (k r : Fin 4) (d i : Fin 32), pin.toNat = k.val + 1 ∧ card.toNat = d.val ∧ b.dev2slot[d] = some i ∧
      routeIndex b.slots[i].route[k] = some r ∧ b.irqRoute[r].irq.toNat = q.val ∧ b.irqRoute[r].level = level

end Sys2Proof.Machine
end

