-- ==== Sys2Proof/Certificates/Slice0/Obligations.lean ====
section
/-! DEFINITION. The statements for the provers. Each docstring names the rule or section it formalises and, where the
statement rests on one of the spec's own decisions (92_eei_decisions.md) or on a choice of the model, says so. -/

open Sys2Proof Sys2Proof.Machine

/-! ## Encoding -/

/-- 30_encoding.md sections 1, 4. Decoding the request of a well-formed operation gives it back, whatever its operands.
The request layout is the model's (log 2). -/
def Obligations.EncodeThenDecode : Prop :=
  ∀ i : Instr, i.wellFormed = true → decode (encode i).1 (encode i).2 = .instr i

/-- 30_encoding.md sections 1, 4. A request that decodes is the request of the operation it decodes to, and that
operation is well formed: no two requests stand for one operation, and decoding names `IO.NONE` only where no other row
stands. The request layout is the model's (log 2). -/
def Obligations.DecodeThenEncode : Prop :=
  ∀ (fmt : Format) (bytes : List Byte) (i : Instr),
    decode fmt bytes = .instr i → encode i = (fmt, bytes) ∧ i.wellFormed = true

/-- 30_encoding.md section 3: "There is no illegal transaction". Every port, direction, width and value decodes, and to
`IO.NONE` exactly where no other row of the claim table stands. -/
def Obligations.EveryTransactionDecodes : Prop :=
  ∀ (p : Port) (a : Access), ∃ i : Instr,
    decode .iox (encodeAccess p a) = .instr i ∧ (i = .ioNone p a ↔ hasNamedRow p a = false)

/-- The words 30_encoding.md section 1 and 95_test_vectors.md write out: 0x60CF8, 0x00CFC, 0x10CF9, 0x4C83C, 0x404D1,
0x50CFE, and command bytes of each kind. -/
def Obligations.WrittenOutWordsDecode : Prop :=
  decode .iox [0xF8, 0x0C, 0x06, 0x3C, 0x4B, 0x00, 0x80] = .instr (.t1AddrWr 0x80004B3C) ∧
  decode .iox [0xFC, 0x0C, 0x00] = .instr (.t1DataRd8 0) ∧
  decode .iox [0xF9, 0x0C, 0x01] = .instr .trcRd16 ∧
  decode .iox [0x3C, 0xC8, 0x04, 0x0B] = .instr (.t2WinWr8 8 0x3C 0x0B) ∧
  decode .iox [0xD1, 0x04, 0x04, 0xFF] = .instr (.elcrWr 1 0xFF) ∧
  decode .iox [0xFE, 0x0C, 0x05, 0x34, 0x12] = .instr (.t1DataWr16 2 0x1234) ∧
  decode .iox [0x00, 0x0D, 0x00] = .instr (.ioNone 0x0D00 .rd8) ∧
  decode .cmd [0x02, 8, 0, 1, 2, 3, 4] = .instr (.registerSlot 8 0 1 2 3 4) ∧
  decode .cmd [0x05, 1, 0] = .instr (.setIrqLevel 1 false) ∧
  decode .cmd [0x07, 8, 2] = .instr (.clearIrq 8 2) ∧
  decode .cmd [0x09, 0, 0x0E] = .instr (.setMirqRouting 0 14) ∧
  decode .cmd [0x0D] = .instr .reset

/-! ## Steps and completion -/

/-- 00_scope.md section 5, 20_memory.md section 6. When the oldest pending request decodes to a well-formed operation,
the step is that operation's meaning on the state with the request taken, and nothing else. -/
def Obligations.StepRunsTheDecodedOperation : Prop :=
  ∀ (s : State) (r : Request) (rest : List Request) (i : Instr),
    s.pending = r :: rest → decode r.format r.bytes = .instr i → i.wellFormed = true →
      step s = exec i { s with pending := rest }

/-- 60_exceptions.md R260. Every operation, on any operands in any state, completes: it neither faults nor is given no
meaning, and what it reports is its events and then exactly one result. -/
def Obligations.EveryOperationCompletes : Prop :=
  ∀ (i : Instr) (s : State), ∃ (t : State) (es : List Event) (r : Result),
    exec i s = .next t ∧ t.trace = s.trace ++ es.map .event ++ [.result r]

/-- 30_encoding.md sections 1 and 3. A step gives no meaning, under any name, exactly to a request that is no operation:
size code 3, bits outside the transaction word, a wrong number of bytes. That these requests are refused is the model's
choice (log 4). -/
def Obligations.StepRefusesExactlyNonOperations : Prop :=
  ∀ (s : State) (why : Refusal),
    step s = .refused why ↔
      ∃ (r : Request) (rest : List Request) (e : DecodeError),
        s.pending = r :: rest ∧ decode r.format r.bytes = .error e ∧
          (e = .noSuchSize ∨ e = .strayBits ∨ e = .wrongLength) ∧ why = .notAnOperation e

/-- Steps in which no operation runs. 00_scope.md section 5: "with no operation arriving, no state changes and no output is
produced". 30_encoding.md section 3, "sideband command code not in rule R105: refuse" (decision D3): a command code
outside 0x01-0x0E changes no state of the block and emits no event; that the step completes is the model's reading of
refuse (log 3, log 5). -/
def Obligations.StepsWithoutAnOperationChangeNothing : Prop :=
  (∀ s : State, s.pending = [] → step s = .next s) ∧
  ∀ (s : State) (code : Byte) (operands : List Byte) (rest : List Request),
    s.pending = { format := .cmd, bytes := code :: operands } :: rest → (code = 0 ∨ 14 < code.toNat) →
      step s = .next (after { s with pending := rest } s.blk [] .none)

/-! ## Reset state, invariants and whole-machine rules -/

/-- 10_state.md section 9 (power-on): the block is not initialised; nothing is presented and nothing observed (log 1,
log 10 are the model's). -/
def Obligations.ResetIsPowerOn : Prop :=
  State.reset.blk.initialised = false ∧ State.reset.pending = [] ∧ State.reset.trace = [] ∧
    step State.reset = .next State.reset

/-- The power-on state meets the invariants of 10_state.md section 8. The fields other than `initialised` hold the values
the model names (log 9). -/
def Obligations.ResetMeetsInvariant : Prop := Invariant State.reset.blk

/-- 10_state.md section 8, invariants (a) to (g), with the two log 31 adds. Every step keeps them, from every state that
meets them. -/
def Obligations.StepKeepsInvariant : Prop :=
  ∀ s t : State, Invariant s.blk → step s = .next t → Invariant t.blk

/-- 10_state.md sections 2 to 6 ("written by"), 20_memory.md section 4: each field of the block, taken on its own, changes
only by an operation that the spec names as its writer. `REGISTER_SLOT` writes `bound` only as false into a descriptor
that, where the invariants hold, is unbound already: there it changes no binding. -/
def Obligations.FieldsChangeOnlyByTheirWriters : Prop :=
  (∀ (i : Instr) (s t : State) (f : Field), exec i s = .next t → f ∉ writers i → sameField f s.blk t.blk) ∧
  ∀ (s t : State) (device cls inta intb intc intd : Byte), Invariant s.blk →
    exec (.registerSlot device cls inta intb intc intd) s = .next t → sameField .slotBinding s.blk t.blk

/-- 00_scope.md section 5 (output events) with the rules of the operations: an operation emits only events of its own
kinds, so strobes come only from writes that reach TRC (43_elcr_trc.md section 3) and PIC primitives only from the
router, the resets and those writes. -/
def Obligations.EventsAreTheOperationsOwn : Prop :=
  ∀ (i : Instr) (s t : State), exec i s = .next t →
    ∃ (es : List Event) (r : Result),
      t.trace = s.trace ++ es.map .event ++ [.result r] ∧ ∀ e ∈ es, e.kind ∈ emitters i

/-- 00_scope.md sections 4 and 5, 20_memory.md section 4. The parameters, the operations still pending and the
environment's scripts are no operation's to change; each device call takes one answer, at most four in one operation;
at most one mode bit is read. The scripts and counters are the model's (log 6, log 7, log 8). -/
def Obligations.EnvironmentIsOnlyRead : Prop :=
  ∀ (i : Instr) (s t : State), exec i s = .next t →
    t.params = s.params ∧ t.pending = s.pending ∧
    t.env.devScript = s.env.devScript ∧ t.env.ltimScript = s.env.ltimScript ∧
    t.env.devReads = s.env.devReads + (eventsSince s.trace.length t).countP isDevReadCall ∧
    t.env.devReads ≤ s.env.devReads + 4 ∧
    s.env.ltimReads ≤ t.env.ltimReads ∧ t.env.ltimReads ≤ s.env.ltimReads + 1

/-- 10_state.md section 9 (power-on) and 30_encoding.md section 1: while the block is not initialised every operation but
`INIT` changes no state, emits no event and returns what an unclaimed port or the failure value gives (decisions D16,
D25, D34; log 17). -/
def Obligations.NothingHappensBeforeInit : Prop :=
  ∀ (i : Instr) (s : State), s.blk.initialised = false → (∀ type : Byte, i ≠ .init type) →
    exec i s = .next (after s s.blk [] (absentResult i))

/-- 30_encoding.md section 1 and 20_memory.md sections 2 and 3. For every port, width, direction, value and state, the
operation the transaction decodes to does what the claim table says when it is read by port number: the native handler,
else the byte lanes in ascending order, each decoded against the state the lane before left, else no response
(decisions D5, D6; log 12). -/
def Obligations.HostTransactionsFollowTheDecodeOrder : Prop :=
  ∀ (p : Port) (a : Access) (s : State), exec (decodeAccess p a) s = hostTransaction p a s

/-- 10_state.md section 8, the state no I/O port shows: from two states that differ only in the hold masks, the routing
table, the mirror table, `elcr_en` and `no_steer` (and in the interrupt primitives emitted before), every host transaction
gives the same result, the same device calls and the same strobes, and leaves two states that again differ only so. -/
def Obligations.HostReadsRevealNoRouterState : Prop :=
  ∀ (p : Port) (a : Access) (s s' : State), SameToHost s s' →
    ∃ (t t' : State) (r : Result),
      exec (decodeAccess p a) s = .next t ∧ exec (decodeAccess p a) s' = .next t' ∧
      resultOf (.next t) = some r ∧ resultOf (.next t') = some r ∧ SameToHost t t'

/-- 20_memory.md section 1, 30_encoding.md sections 1 and 3: a byte transaction at a port the block does not claim now
reads all-ones and is ignored on a write, and so is a wide transaction none of whose lanes is claimed now, whatever row it
decodes to (decision D5; log 12). -/
def Obligations.UnclaimedPortsDoNotRespond : Prop :=
  ∀ (p : Port) (s : State), ¬ ClaimsByte s.blk p.toNat →
    exec (decodeAccess p .rd8) s = .next (after s s.blk [] (.val8 0xFF)) ∧
    (∀ v, exec (decodeAccess p (.wr8 v)) s = .next (after s s.blk [] .none)) ∧
    (¬ ClaimsByte s.blk (p + 1).toNat →
      exec (decodeAccess p .rd16) s = .next (after s s.blk [] (.val16 0xFFFF)) ∧
      (∀ v, exec (decodeAccess p (.wr16 v)) s = .next (after s s.blk [] .none)) ∧
      (¬ ClaimsByte s.blk (p + 2).toNat → ¬ ClaimsByte s.blk (p + 3).toNat →
        exec (decodeAccess p .rd32) s = .next (after s s.blk [] (.val32 0xFFFFFFFF)) ∧
        ∀ v, exec (decodeAccess p (.wr32 v)) s = .next (after s s.blk [] .none)))

/-! ## Type 1 -/

/-- 40_config_decoder.md section 2, the write of CONFIG_ADDRESS: register 7:0, function 10:8, device 15:11, bus 23:16,
enable 31 (decision D7; log 13); nothing else of the block changes and no event is emitted. -/
def Obligations.ConfigAddressWriteLatchesFiveFields : Prop :=
  ∀ (s : State) (v : Dword), t1Ports s.blk = true →
    ∃ (reg bus : Byte) (func : BitVec 3) (dev : BitVec 5) (en : Bool),
      exec (.t1AddrWr v) s =
        .next (after s { s.blk with caReg := reg, caFunc := func, caDev := dev, caBus := bus, caEn := en } [] .none) ∧
      reg.toNat = v.toNat % 256 ∧ func.toNat = v.toNat / 2 ^ 8 % 8 ∧ dev.toNat = v.toNat / 2 ^ 11 % 32 ∧
      bus.toNat = v.toNat / 2 ^ 16 % 256 ∧ (en = true ↔ 2 ^ 31 ≤ v.toNat)

/-- 40_config_decoder.md section 2, the read of CONFIG_ADDRESS: the five fields in their places, the reserved bits 0
(decision D7; log 13). -/
def Obligations.ConfigAddressReadGivesTheLatch : Prop :=
  ∀ s : State, t1Ports s.blk = true → ∃ v : Dword,
    exec .t1AddrRd s = .next (after s s.blk [] (.val32 v)) ∧
    v.toNat = s.blk.caEn.toNat * 2 ^ 31 + s.blk.caBus.toNat * 2 ^ 16 + s.blk.caDev.toNat * 2 ^ 11 +
      s.blk.caFunc.toNat * 2 ^ 8 + s.blk.caReg.toNat

/-- 40_config_decoder.md R137 and, through it, R131: a byte of CONFIG_DATA. Its transaction word is 0x00CFC | (p & 3).
Disabled, bus not 0, unmapped and unbound read 0xFF and call no device; otherwise the bound device's read port is called
once, with the function latched and the register index `ca_reg | (p & 3)`, and its byte is returned unchanged; the block
does not change. -/
def Obligations.ConfigDataByteRead : Prop :=
  (∀ lane : BitVec 2, decodeTableWord 19 (0x00CFC ||| lane.toNat) = some (.t1DataRd8 lane)) ∧
  ∀ (s : State) (lane : BitVec 2), t1Ports s.blk = true →
    ((s.blk.caEn = false ∨ s.blk.caBus ≠ 0 ∨ ∀ h, ¬ Reaches s.blk s.blk.caDev h) →
      exec (.t1DataRd8 lane) s = .next (after s s.blk [] (.val8 0xFF))) ∧
    (∀ h, s.blk.caEn = true → s.blk.caBus = 0 → Reaches s.blk s.blk.caDev h →
      exec (.t1DataRd8 lane) s =
        .next (after s s.blk [.devReadCall h s.blk.caFunc (s.blk.caReg ||| BitVec.ofNat 8 lane.toNat)]
          (.val8 (answerAt s 0 h s.blk.caFunc (s.blk.caReg ||| BitVec.ofNat 8 lane.toNat)))))

/-- 40_config_decoder.md section 2, a byte written to CONFIG_DATA: dropped when disabled (decision D9; log 14), on another
bus, unmapped or unbound; otherwise one call of the device's write port. -/
def Obligations.ConfigDataByteWrite : Prop :=
  ∀ (s : State) (lane : BitVec 2) (v : Byte), t1Ports s.blk = true →
    ((s.blk.caEn = false ∨ s.blk.caBus ≠ 0 ∨ ∀ h, ¬ Reaches s.blk s.blk.caDev h) →
      exec (.t1DataWr8 lane v) s = .next (after s s.blk [] .none)) ∧
    (∀ h, s.blk.caEn = true → s.blk.caBus = 0 → Reaches s.blk s.blk.caDev h →
      exec (.t1DataWr8 lane v) s =
        .next (after s s.blk [.devWrite h s.blk.caFunc (s.blk.caReg ||| BitVec.ofNat 8 lane.toNat) v] .none))

/-- 40_config_decoder.md section 2, wide reads of CONFIG_DATA that reach a device: one device read per lane in ascending
order, the bytes joined little-endian, a lane past 0x0CFF all-ones (decisions D4, D6, D32; log 12). -/
def Obligations.ConfigDataWideRead : Prop :=
  ∀ (s : State) (lane : BitVec 2) (h : Handle), t1Ports s.blk = true →
    s.blk.caEn = true → s.blk.caBus = 0 → Reaches s.blk s.blk.caDev h →
    exec (.t1DataRd16 lane) s =
      .next (after s s.blk (configDataCalls s h lane.toNat 2)
        (.val16 (BitVec.ofNat 16 (laneValue (configDataBytes s h lane.toNat 2))))) ∧
    exec (.t1DataRd32 lane) s =
      .next (after s s.blk (configDataCalls s h lane.toNat 4)
        (.val32 (BitVec.ofNat 32 (laneValue (configDataBytes s h lane.toNat 4)))))

/-- 40_config_decoder.md section 2, wide writes of CONFIG_DATA that reach a device: one device write per lane in ascending
order, a lane past 0x0CFF dropped (decisions D4, D5, D32; log 12). -/
def Obligations.ConfigDataWideWrite : Prop :=
  ∀ (s : State) (lane : BitVec 2) (h : Handle), t1Ports s.blk = true →
    s.blk.caEn = true → s.blk.caBus = 0 → Reaches s.blk s.blk.caDev h →
    (∀ v : Word, exec (.t1DataWr16 lane v) s =
      .next (after s s.blk (configDataWrites s.blk h lane.toNat (littleEndian 2 v.toNat)) .none)) ∧
    (∀ v : Dword, exec (.t1DataWr32 lane v) s =
      .next (after s s.blk (configDataWrites s.blk h lane.toNat (littleEndian 4 v.toNat)) .none))

/-- 40_config_decoder.md section 2 (the Type 1 gate) and 95_test_vectors.md S3: with a non-zero latched bus, or disabled,
every width of CONFIG_DATA reads all-ones and every write has no effect, even if the device number is bound (decision D9
for the disabled write; log 14). -/
def Obligations.OtherBusIsNotPresent : Prop :=
  ∀ (s : State) (lane : BitVec 2), t1Ports s.blk = true → (s.blk.caBus ≠ 0 ∨ s.blk.caEn = false) →
    exec (.t1DataRd8 lane) s = .next (after s s.blk [] (.val8 0xFF)) ∧
    exec (.t1DataRd16 lane) s = .next (after s s.blk [] (.val16 0xFFFF)) ∧
    exec (.t1DataRd32 lane) s = .next (after s s.blk [] (.val32 0xFFFFFFFF)) ∧
    (∀ v, exec (.t1DataWr8 lane v) s = .next (after s s.blk [] .none)) ∧
    (∀ v, exec (.t1DataWr16 lane v) s = .next (after s s.blk [] .none)) ∧
    (∀ v, exec (.t1DataWr32 lane v) s = .next (after s s.blk [] .none))

/-- 95_test_vectors.md S2, 40_config_decoder.md sections 1 to 3: a device number with no bound card reads all-ones at
every width, by Type 1 or by the window, whatever the bus, function and register. -/
def Obligations.UnboundDeviceReadsAllOnes : Prop :=
  (∀ (s : State) (lane : BitVec 2), t1Ports s.blk = true → (∀ h, ¬ Reaches s.blk s.blk.caDev h) →
    exec (.t1DataRd8 lane) s = .next (after s s.blk [] (.val8 0xFF)) ∧
    exec (.t1DataRd16 lane) s = .next (after s s.blk [] (.val16 0xFFFF)) ∧
    exec (.t1DataRd32 lane) s = .next (after s s.blk [] (.val32 0xFFFFFFFF))) ∧
  (∀ (s : State) (dev : BitVec 4) (reg : Byte), t2Ports s.blk = true →
    (∀ h, ¬ Reaches s.blk (dev.setWidth 5) h) →
    exec (.t2WinRd8 dev reg) s = .next (after s s.blk [] (.val8 0xFF)) ∧
    (reg.toNat + 2 ≤ 256 → exec (.t2WinRd16 dev reg) s = .next (after s s.blk [] (.val16 0xFFFF))) ∧
    (reg.toNat + 4 ≤ 256 → exec (.t2WinRd32 dev reg) s = .next (after s s.blk [] (.val32 0xFFFFFFFF))))

/-! ## Type 2 and the mechanism switch -/

/-- 40_config_decoder.md section 3, the write of CSE: function 3:1, key 7:4, bit 0 dropped (decision D10; log 15); the
window is open afterwards exactly when the key is not 0. -/
def Obligations.CseWriteSetsKeyAndFunction : Prop :=
  ∀ (s : State) (v : Byte), t2Ports s.blk = true →
    ∃ (key : BitVec 4) (func : BitVec 3),
      exec (.t2CseWr v) s = .next (after s { s.blk with t2Func := func, t2Key := key } [] .none) ∧
      key.toNat = v.toNat / 16 ∧ func.toNat = v.toNat / 2 % 8 ∧
      (windowOpen { s.blk with t2Func := func, t2Key := key } = true ↔ 16 ≤ v.toNat)

/-- 40_config_decoder.md R143: a write to 0x0CFA, transaction word 0x40CFA, sets the bus number, and changes nothing
else. -/
def Obligations.BusWriteSetsTheBusNumber : Prop :=
  decodeTableWord 19 0x40CFA = some (.t2BusWr 0) ∧
  ∀ (s : State) (v : Byte), t2Ports s.blk = true →
    exec (.t2BusWr v) s = .next (after s { s.blk with t2Bus := v } [] .none)

/-- 40_config_decoder.md sections 3 and 4, 43_elcr_trc.md sections 1 and 2: the byte reads of the block's own registers,
each when present: CSE {key, function, 0}, the bus number, PMC's bit 0, the ELCR registers, TRC under its mask (decisions
D10, D11, D17; log 15, log 18). They change nothing. -/
def Obligations.OwnRegistersRead : Prop :=
  ∀ s : State,
    (t2Ports s.blk = true → (∃ v : Byte, v.toNat = s.blk.t2Key.toNat * 16 + s.blk.t2Func.toNat * 2 ∧
      exec .t2CseRd s = .next (after s s.blk [] (.val8 v)))) ∧
    (t2Ports s.blk = true → exec .t2BusRd s = .next (after s s.blk [] (.val8 s.blk.t2Bus))) ∧
    (s.blk.initialised = true → s.blk.mech = .t2 →
      exec .pmcRd s = .next (after s s.blk [] (.val8 (if s.blk.pmc then 1 else 0)))) ∧
    (s.blk.initialised = true →
      exec (.elcrRd 0) s = .next (after s s.blk [] (.val8 s.blk.elcr0)) ∧
      exec (.elcrRd 1) s = .next (after s s.blk [] (.val8 s.blk.elcr1)) ∧
      ∃ v : Byte, (∀ k < 8, v.getLsbD k = (s.blk.trc.getLsbD k && s.params.trcReadMask.getLsbD k)) ∧
        exec .trcRd8 s = .next (after s s.blk [] (.val8 v)))

/-- 40_config_decoder.md sections 3 and 4, what the host writes to CSE and to PMC reads back, the reserved bits as 0
(decisions D10, D11, D12; log 15, log 16). -/
def Obligations.CseAndPmcReadBack : Prop :=
  ∀ (s : State) (v : Byte),
    (t2Ports s.blk = true → ∃ t, exec (.t2CseWr v) s = .next t ∧
      exec .t2CseRd t = .next (after t t.blk [] (.val8 (v &&& 0xFE)))) ∧
    (s.blk.initialised = true → s.blk.mech = .t2 → ∃ t, exec (.pmcWr v) s = .next t ∧
      exec .pmcRd t = .next (after t t.blk [] (.val8 (v &&& 0x01))))

/-- 40_config_decoder.md section 3, a byte of the window (decision D14 for a non-zero bus, D15 for no latch; log 14,
log 16): 0xFF without a call off bus 0, unmapped or unbound; otherwise one call of the device with the window's
function. -/
def Obligations.WindowByteRead : Prop :=
  ∀ (s : State) (dev : BitVec 4) (reg : Byte), windowOpen s.blk = true →
    ((s.blk.t2Bus ≠ 0 ∨ ∀ h, ¬ Reaches s.blk (BitVec.ofNat 5 dev.toNat) h) →
      exec (.t2WinRd8 dev reg) s = .next (after s s.blk [] (.val8 0xFF))) ∧
    (∀ h, s.blk.t2Bus = 0 → Reaches s.blk (BitVec.ofNat 5 dev.toNat) h →
      exec (.t2WinRd8 dev reg) s =
        .next (after s s.blk [.devReadCall h s.blk.t2Func reg] (.val8 (answerAt s 0 h s.blk.t2Func reg))))

/-- 40_config_decoder.md section 3, a byte written to the window (decision D14 for a non-zero bus; log 14). -/
def Obligations.WindowByteWrite : Prop :=
  ∀ (s : State) (dev : BitVec 4) (reg v : Byte), windowOpen s.blk = true →
    ((s.blk.t2Bus ≠ 0 ∨ ∀ h, ¬ Reaches s.blk (BitVec.ofNat 5 dev.toNat) h) →
      exec (.t2WinWr8 dev reg v) s = .next (after s s.blk [] .none)) ∧
    (∀ h, s.blk.t2Bus = 0 → Reaches s.blk (BitVec.ofNat 5 dev.toNat) h →
      exec (.t2WinWr8 dev reg v) s = .next (after s s.blk [.devWrite h s.blk.t2Func reg v] .none))

/-- 40_config_decoder.md section 3, wide window accesses that stay inside one device: one call per lane in ascending order
(decisions D5, D32; log 12). -/
def Obligations.WindowWideAccess : Prop :=
  ∀ (s : State) (dev : BitVec 4) (reg : Byte) (h : Handle), windowOpen s.blk = true → s.blk.t2Bus = 0 →
    Reaches s.blk (BitVec.ofNat 5 dev.toNat) h →
    (reg.toNat + 2 ≤ 256 →
      exec (.t2WinRd16 dev reg) s =
        .next (after s s.blk (windowCalls s.blk h reg.toNat 2)
          (.val16 (BitVec.ofNat 16 (laneValue (windowBytes s h reg.toNat 2))))) ∧
      ∀ v : Word, exec (.t2WinWr16 dev reg v) s =
        .next (after s s.blk (windowWrites s.blk h reg.toNat (littleEndian 2 v.toNat)) .none)) ∧
    (reg.toNat + 4 ≤ 256 →
      exec (.t2WinRd32 dev reg) s =
        .next (after s s.blk (windowCalls s.blk h reg.toNat 4)
          (.val32 (BitVec.ofNat 32 (laneValue (windowBytes s h reg.toNat 4))))) ∧
      ∀ v : Dword, exec (.t2WinWr32 dev reg v) s =
        .next (after s s.blk (windowWrites s.blk h reg.toNat (littleEndian 4 v.toNat)) .none))

/-- 40_config_decoder.md section 3, a 16-bit window read at register 0xFF: register 0xFF of the device, then register 0
of the next device; from device 15 the second lane is port 0xD000, which the block does not claim (decision D6;
log 12). -/
def Obligations.WindowReadCrossesDevices : Prop :=
  ∀ (s : State) (dev : BitVec 4) (h : Handle), windowOpen s.blk = true → s.blk.t2Bus = 0 →
    Reaches s.blk (BitVec.ofNat 5 dev.toNat) h →
    (∀ h', dev.toNat < 15 → Reaches s.blk (BitVec.ofNat 5 (dev.toNat + 1)) h' →
      exec (.t2WinRd16 dev 0xFF) s =
        .next (after s s.blk [.devReadCall h s.blk.t2Func 0xFF, .devReadCall h' s.blk.t2Func 0]
          (.val16 (answerAt s 1 h' s.blk.t2Func 0 ++ answerAt s 0 h s.blk.t2Func 0xFF)))) ∧
    (dev = 15 →
      exec (.t2WinRd16 dev 0xFF) s =
        .next (after s s.blk [.devReadCall h s.blk.t2Func 0xFF]
          (.val16 ((0xFF : Byte) ++ answerAt s 0 h s.blk.t2Func 0xFF))))

/-- 40_config_decoder.md section 4, the write of PMC: bit 0 selects the Type-1-style ports, and the latch and the Type 2
fields are cleared on every write, so the window closes (decisions D12, D13; log 16). -/
def Obligations.PmcWriteSwitchesPorts : Prop :=
  ∀ (s : State) (v : Byte), s.blk.initialised = true → s.blk.mech = .t2 →
    ∃ b : Block,
      b = { s.blk with
              caReg := 0, caFunc := 0, caDev := 0, caBus := 0, caEn := false
              t2Func := 0, t2Key := 0, t2Bus := 0, pmc := v.toNat % 2 == 1 } ∧
      exec (.pmcWr v) s = .next (after s b [] .none) ∧
      (t1Ports b = true ↔ v.toNat % 2 = 1) ∧ (t2Ports b = true ↔ v.toNat % 2 = 0) ∧ windowOpen b = false

/-! ## ELCR, TRC, RESET -/

/-- 43_elcr_trc.md section 1, the write of an ELCR register: every line takes its bit, but IRQs 0, 1, 2, 8 and 13 stay
edge (decision D28; log 28); only that register changes and no PIC primitive is emitted. -/
def Obligations.ElcrWriteKeepsFixedBits : Prop :=
  ∀ (s : State) (v : Byte), s.blk.initialised = true →
    (∃ e : Byte, exec (.elcrWr 0 v) s = .next (after s { s.blk with elcr0 := e } [] .none) ∧
      ∀ n < 8, e.getLsbD n = (v.getLsbD n && decide (3 ≤ n))) ∧
    (∃ e : Byte, exec (.elcrWr 1 v) s = .next (after s { s.blk with elcr1 := e } [] .none) ∧
      ∀ n < 8, e.getLsbD n = (v.getLsbD n && decide (n ≠ 0 ∧ n ≠ 5)))

/-- 43_elcr_trc.md section 1: `ELCR_SET_ENABLED` writes `elcr_en` and nothing else (decision D16; log 17). -/
def Obligations.ElcrSetEnabledWritesTheFlag : Prop :=
  ∀ (s : State) (en : Bool), s.blk.initialised = true →
    exec (.elcrSetEnabled en) s = .next (after s { s.blk with elcrEn := en } [] .none)

/-- 42_interrupt_router.md section 5, `IRQ_IS_LEVEL`: IRQs 0-2, 8 and 13 are edge; else the ELCR bit when `elcr_en` is
set, else the 8259 mode bit of the line's half, which is the environment's (decision D28; log 7, log 28); a number above
15 is refused (decision D29; log 22). The block never changes. -/
def Obligations.IrqIsLevelAnswers : Prop :=
  ∀ (s : State) (irq : Byte), s.blk.initialised = true →
    (irq.toNat ∈ [0, 1, 2, 8, 13] → exec (.irqIsLevel irq) s = .next (after s s.blk [] (.bit false))) ∧
    (irq.toNat ∉ [0, 1, 2, 8, 13] → s.blk.elcrEn = true →
      (irq.toNat < 8 →
        exec (.irqIsLevel irq) s = .next (after s s.blk [] (.bit (s.blk.elcr0.getLsbD irq.toNat)))) ∧
      (8 ≤ irq.toNat → irq.toNat < 16 →
        exec (.irqIsLevel irq) s = .next (after s s.blk [] (.bit (s.blk.elcr1.getLsbD (irq.toNat - 8)))))) ∧
    (irq.toNat ∉ [0, 1, 2, 8, 13] → irq.toNat < 16 → s.blk.elcrEn = false →
      exec (.irqIsLevel irq) s =
        .next (after { s with env := { s.env with ltimReads := s.env.ltimReads + 1 } } s.blk []
          (.bit (ltimAnswer (if irq.toNat < 8 then .master else .slave) s)))) ∧
    (16 ≤ irq.toNat → exec (.irqIsLevel irq) s = .next (after s s.blk [] .none))

/-- 43_elcr_trc.md R245: word and dword reads of TRC, transaction words 0x10CF9 and 0x20CF9, return all-ones, taken whole,
with no state change and no event. -/
def Obligations.TrcWideReadsAreAllOnes : Prop :=
  decodeTableWord 19 0x10CF9 = some .trcRd16 ∧ decodeTableWord 19 0x20CF9 = some .trcRd32 ∧
  ∀ s : State, s.blk.initialised = true →
    exec .trcRd16 s = .next (after s s.blk [] (.val16 0xFFFF)) ∧
    exec .trcRd32 s = .next (after s s.blk [] (.val32 0xFFFFFFFF))

/-- 43_elcr_trc.md section 2: wide writes of TRC are taken whole and ignored (decision D17; log 18). -/
def Obligations.TrcWideWritesAreIgnored : Prop :=
  ∀ s : State, s.blk.initialised = true →
    (∀ v, exec (.trcWr16 v) s = .next (after s s.blk [] .none)) ∧
    (∀ v, exec (.trcWr32 v) s = .next (after s s.blk [] .none))

/-- 43_elcr_trc.md section 3, `RESET`: one `PicClear` for each line with a non-zero mask, ascending; hold masks, ELCR,
latch and Type 2 state cleared; all else kept (decision D19; log 20). -/
def Obligations.SubsystemResetClears : Prop :=
  ∀ s : State, s.blk.initialised = true → ∃ lines : List (Fin 16),
    (∀ q, q ∈ lines ↔ s.blk.hold[q] ≠ 0) ∧ lines.Pairwise (· < ·) ∧
    exec .reset s =
      .next (after s
        { s.blk with
            hold := Vector.replicate 16 0, elcr0 := 0, elcr1 := 0
            caReg := 0, caFunc := 0, caDev := 0, caBus := 0, caEn := false
            t2Func := 0, t2Key := 0, t2Bus := 0, pmc := false }
        (lines.map .picClear) .none)

/-- 43_elcr_trc.md section 2, the byte write of TRC, for either value of the open parameter (decisions D17, D18, D33;
log 18, log 19): no rise of bit 2 only stores; a rise without a cascade emits the CPU reset alone; a rise with bit 1, or
with the parameter set, runs the cascade around the subsystem reset first. The stored bit 2 is forced low by bit 1. -/
def Obligations.TrcByteWrite : Prop :=
  ∀ (s : State) (v : Byte), s.blk.initialised = true → ∃ stored : Byte,
    (∀ k < 8, stored.getLsbD k = (v.getLsbD k && !(decide (k = 2) && v.getLsbD 1))) ∧
    ((s.blk.trc.getLsbD 2 = true ∨ v.getLsbD 2 = false) →
      exec (.trcWr8 v) s = .next (after s { s.blk with trc := stored } [] .none)) ∧
    (s.blk.trc.getLsbD 2 = false → v.getLsbD 2 = true → v.getLsbD 1 = false →
      s.params.trcSoftResetCascades = false →
      exec (.trcWr8 v) s = .next (after s { s.blk with trc := stored } [.strobe .cpuReset] .none)) ∧
    (s.blk.trc.getLsbD 2 = false → v.getLsbD 2 = true →
      (v.getLsbD 1 = true ∨ s.params.trcSoftResetCascades = true) →
      ∃ lines : List (Fin 16), (∀ q, q ∈ lines ↔ s.blk.hold[q] ≠ 0) ∧ lines.Pairwise (· < ·) ∧
        exec (.trcWr8 v) s =
          .next (after s
            { s.blk with
                hold := Vector.replicate 16 0, elcr0 := 0, elcr1 := 0
                caReg := 0, caFunc := 0, caDev := 0, caBus := 0, caEn := false
                t2Func := 0, t2Key := 0, t2Bus := 0, pmc := false, trc := stored }
            ([.strobe .dmaReset, .strobe .deviceResetAll, .strobe .cpuAltResetClear] ++ lines.map .picClear ++
              [.strobe .kbcReset, .strobe .a20Reset, .strobe .mmuFlush, .strobe .cpuReset]) .none))

/-- 70_reset_and_hazards.md section 3 (TRC is edge-sensitive), 43_elcr_trc.md section 2: of two equal writes with bit 2
set, the second emits nothing when bit 1 is clear, and resets the CPU again when bit 1 is set (decision D17; log 18). -/
def Obligations.TrcRearmsOnlyByFullReset : Prop :=
  ∀ (s : State) (v : Byte), s.blk.initialised = true → v.getLsbD 2 = true →
    ∃ t u : State, exec (.trcWr8 v) s = .next t ∧ exec (.trcWr8 v) t = .next u ∧
      (v.getLsbD 1 = false → eventsSince t.trace.length u = []) ∧
      (v.getLsbD 1 = true → .strobe .cpuReset ∈ eventsSince t.trace.length u)

/-- 43_elcr_trc.md section 2, the document's reset scenario under the condition of 90_conflicts.md C6: a byte write with
bits 1 and 2 set on a stored bit 2 of 0 clears all hold masks and both ELCR registers, and with `elcr_en` set every line
then answers edge. -/
def Obligations.HardResetLeavesEveryLineEdge : Prop :=
  ∀ (s : State) (v irq : Byte), s.blk.initialised = true → s.blk.trc.getLsbD 2 = false →
    v.getLsbD 2 = true → v.getLsbD 1 = true → irq.toNat < 16 →
    ∃ t : State, exec (.trcWr8 v) s = .next t ∧
      (∀ q : Fin 16, t.blk.hold[q] = 0) ∧ t.blk.elcr0 = 0 ∧ t.blk.elcr1 = 0 ∧
      (s.blk.elcrEn = true → exec (.irqIsLevel irq) t = .next (after t t.blk [] (.bit false)))

/-! ## Slot registry -/

/-- 41_slot_registry.md section on `INIT`: bits 1:0 of `type` select the mechanism and bit 7 the no-steering flag; every
field takes its value of 10_state.md section 9, whatever it held, and no event is emitted; bits 1:0 of 0 or 3 are refused
(decisions D20, D21; log 21, log 22). -/
def Obligations.InitSetsEveryField : Prop :=
  ∀ (s : State) (type : Byte),
    (∀ mech : Mech, (type.toNat % 4 = 1 ∧ mech = .t1) ∨ (type.toNat % 4 = 2 ∧ mech = .t2) →
      exec (.init type) s =
        .next (after s
          { initialised := true, mech := mech, noSteer := decide (128 ≤ type.toNat)
            slots := Vector.replicate 32
              { id := 0xFF, cls := none, route := Vector.replicate 4 .disabled, dev := none }
            nslots := 0, dev2slot := Vector.replicate 32 none
            irqRoute := Vector.replicate 4 { irq := 0xFF, level := s.params.irqLevelInit }
            mirq := Vector.replicate 3 { enabled := false, irq := 0xFF }
            hold := Vector.replicate 16 0
            caReg := 0, caFunc := 0, caDev := 0, caBus := 0, caEn := false
            t2Func := 0, t2Key := 0, t2Bus := 0, pmc := false
            elcr0 := 0, elcr1 := 0, elcrEn := s.params.elcrEnabledInit, trc := 0 } [] .none)) ∧
    (type.toNat % 4 = 0 ∨ type.toNat % 4 = 3 → exec (.init type) s = .next (after s s.blk [] .none))

/-- 41_slot_registry.md, `REGISTER_SLOT` with operands in their domains, by the numbers of 30_encoding.md section 4, on a
table that is not full: slot `nslots` holds the descriptor, unbound; the device number maps to it; the other slots and
mappings stay (decisions D21, D26; log 22, log 26). -/
def Obligations.RegisterSlotAppends : Prop :=
  ∀ (s : State) (device cls inta intb intc intd : Byte) (c : SlotClass) (ra rb rc rd : PinRoute),
    s.blk.initialised = true → device.toNat < 32 → classNumbers[cls.toNat]? = some c →
    wiringNumbers[inta.toNat]? = some ra → wiringNumbers[intb.toNat]? = some rb →
    wiringNumbers[intc.toNat]? = some rc → wiringNumbers[intd.toNat]? = some rd →
    ∀ (i : Fin 32) (d : Fin 32), s.blk.nslots = i.val → device.toNat = d.val →
    ∃ b : Block,
      exec (.registerSlot device cls inta intb intc intd) s = .next (after s b [] .none) ∧
      b.slots[i] = { id := device, cls := some c, route := #v[ra, rb, rc, rd], dev := none } ∧
      (∀ j, j ≠ i → b.slots[j] = s.blk.slots[j]) ∧
      b.dev2slot[d] = some i ∧ (∀ e, e ≠ d → b.dev2slot[e] = s.blk.dev2slot[e]) ∧ b.nslots = s.blk.nslots + 1 ∧
      { b with slots := s.blk.slots, dev2slot := s.blk.dev2slot, nslots := s.blk.nslots } = s.blk

/-- 41_slot_registry.md, `REGISTER_SLOT` refused: a device number above 31, a class above 6, a wiring above 4, or a table
of 32 slots change nothing (decisions D25, D26; log 22, log 26). -/
def Obligations.RegisterSlotRefuses : Prop :=
  ∀ (s : State) (device cls inta intb intc intd : Byte), s.blk.initialised = true →
    (31 < device.toNat ∨ 6 < cls.toNat ∨ 4 < inta.toNat ∨ 4 < intb.toNat ∨ 4 < intc.toNat ∨ 4 < intd.toNat ∨
      s.blk.nslots = 32) →
    exec (.registerSlot device cls inta intb intc intd) s = .next (after s s.blk [] .none)

/-- 41_slot_registry.md, `ADD_CARD`: of the registered, unbound slots that match the add type's number, the first in
registration order is bound to the handle and its device number is the result; nothing else changes (decisions D21, D27;
log 22, log 27). -/
def Obligations.AddCardBindsTheFirstMatch : Prop :=
  ∀ (s : State) (addType : Byte) (h : Handle) (i : Fin 32),
    s.blk.initialised = true → i.val < s.blk.nslots → s.blk.slots[i].dev = none →
    MatchesNumber addType.toNat s.blk.slots[i] →
    (∀ j : Fin 32, j < i → s.blk.slots[j].dev ≠ none ∨ ¬ MatchesNumber addType.toNat s.blk.slots[j]) →
    ∃ b : Block,
      exec (.addCard addType h) s = .next (after s b [] (.val8 s.blk.slots[i].id)) ∧
      b.slots[i] = { s.blk.slots[i] with dev := some h } ∧ (∀ j, j ≠ i → b.slots[j] = s.blk.slots[j]) ∧
      { b with slots := s.blk.slots } = s.blk

/-- 41_slot_registry.md, `ADD_CARD` with no free slot that matches the add type's number: the result is 0xFF and nothing
changes. A number that is no add type (0x20-0x7F, 0x87 and above) fails the same way, whatever the slots (decision D21;
log 22). -/
def Obligations.AddCardFailsWithNoFreeSlot : Prop :=
  ∀ (s : State) (addType : Byte) (h : Handle),
    ((32 ≤ addType.toNat ∧ addType.toNat < 0x80) ∨ 0x87 ≤ addType.toNat ∨
      (∀ j : Fin 32, j.val < s.blk.nslots →
        s.blk.slots[j].dev ≠ none ∨ ¬ MatchesNumber addType.toNat s.blk.slots[j])) →
    exec (.addCard addType h) s = .next (after s s.blk [] (.val8 0xFF))

/-- 10_state.md section 3: "it never unbinds during normal operation (only full reinitialization clears everything)". In
every state, an operation other than `INIT` keeps every registered slot, with its device number, class and wiring, and
every binding. -/
def Obligations.RegistrationAndBindingArePermanent : Prop :=
  ∀ (i : Instr) (s t : State) (k : Fin 32), (∀ type : Byte, i ≠ .init type) →
    exec i s = .next t → k.val < s.blk.nslots →
    k.val < t.blk.nslots ∧ t.blk.slots[k].id = s.blk.slots[k].id ∧ t.blk.slots[k].cls = s.blk.slots[k].cls ∧
      t.blk.slots[k].route = s.blk.slots[k].route ∧
      ∀ h, s.blk.slots[k].dev = some h → t.blk.slots[k].dev = some h

/-! ## Interrupt router -/

/-- 42_interrupt_router.md section 1: `SET_IRQ_ROUTING` and `SET_IRQ_LEVEL` write one field of one routing entry, a value
above 15 as given; the hold masks are not touched; a `pci_int` outside 1-4 is refused (decision D25; log 22). -/
def Obligations.RoutingEntriesAreWritten : Prop :=
  ∀ (s : State) (pciInt irq : Byte) (level : Bool), s.blk.initialised = true →
    (∀ k : Fin 4, pciInt.toNat = k.val + 1 →
      exec (.setIrqRouting pciInt irq) s =
        .next (after s { s.blk with irqRoute := s.blk.irqRoute.set k ⟨irq, s.blk.irqRoute[k].level⟩ } [] .none) ∧
      exec (.setIrqLevel pciInt level) s =
        .next (after s { s.blk with irqRoute := s.blk.irqRoute.set k ⟨s.blk.irqRoute[k].irq, level⟩ } [] .none)) ∧
    (pciInt.toNat = 0 ∨ 4 < pciInt.toNat →
      exec (.setIrqRouting pciInt irq) s = .next (after s s.blk [] .none) ∧
      exec (.setIrqLevel pciInt level) s = .next (after s s.blk [] .none))

/-- 42_interrupt_router.md section 4: `ENABLE_MIRQ` and `SET_MIRQ_ROUTING` write one field of one mirror entry; a number
above 2 is refused (decisions D24, D25; log 22, log 25). -/
def Obligations.MirrorEntriesAreWritten : Prop :=
  ∀ (s : State) (mirq irq : Byte), s.blk.initialised = true →
    (∀ m : Fin 3, mirq.toNat = m.val →
      exec (.enableMirq mirq) s =
        .next (after s { s.blk with mirq := s.blk.mirq.set m ⟨true, s.blk.mirq[m].irq⟩ } [] .none) ∧
      exec (.setMirqRouting mirq irq) s =
        .next (after s { s.blk with mirq := s.blk.mirq.set m ⟨s.blk.mirq[m].enabled, irq⟩ } [] .none)) ∧
    (2 < mirq.toNat →
      exec (.enableMirq mirq) s = .next (after s s.blk [] .none) ∧
      exec (.setMirqRouting mirq irq) s = .next (after s s.blk [] .none))

/-- 42_interrupt_router.md R204: in steering mode the line and the level flag of a card's pin are those of the routing
entry of the logical interrupt the pin is wired to; the flag comes from the table, whatever the ELCR and the 8259 say; and
a pin that resolves to a line is wired so. -/
def Obligations.SteeringUsesTheRoutingTable : Prop :=
  ∀ (s : State) (card pin : Byte) (q : Fin 16) (level : Bool), s.blk.noSteer = false →
    (resolve card pin s = (.line q level, s) ↔ SteersTo s.blk card pin q level)

/-- 42_interrupt_router.md section 2. With or without steering, a `pin` outside 1-4 (refused, decision D25), a card above
31, an unmapped card and a pin that is wired nowhere do nothing on `SET_IRQ` and `CLEAR_IRQ`: no event, and no device call
(95_test_vectors.md F21). In steering mode, whatever does not resolve to a line, an IRQ above 15 too, does nothing
(log 22). -/
def Obligations.UnroutedInterruptsDoNothing : Prop :=
  (∀ (s : State) (card pin : Byte), s.blk.initialised = true →
    (pin.toNat = 0 ∨ 4 < pin.toNat ∨ 31 < card.toNat ∨
      (∃ d : Fin 32, card.toNat = d.val ∧ s.blk.dev2slot[d] = none) ∨
      (∃ (d i : Fin 32) (k : Fin 4), card.toNat = d.val ∧ pin.toNat = k.val + 1 ∧ s.blk.dev2slot[d] = some i ∧
        s.blk.slots[i].route[k] = .disabled)) →
    exec (.setIrq card pin) s = .next (after s s.blk [] .none) ∧
    exec (.clearIrq card pin) s = .next (after s s.blk [] .none)) ∧
  (∀ (s : State) (card pin : Byte), s.blk.initialised = true → s.blk.noSteer = false →
    (∀ q level, ¬ SteersTo s.blk card pin q level) →
    exec (.setIrq card pin) s = .next (after s s.blk [] .none) ∧
    exec (.clearIrq card pin) s = .next (after s s.blk [] .none))

/-- 42_interrupt_router.md section 2, the no-steering mode (decision D22; log 23): a bound card is asked for register 0x3C
of function 0, once; a value above 15 is no line; the flag is edge, or `IsLevel` of that line under the open parameter. An
unbound slot gives nothing and no device is called. (Unmapped cards and unwired pins: UnroutedInterruptsDoNothing.) -/
def Obligations.NoSteeringAsksTheCard : Prop :=
  ∀ (s : State) (card pin : Byte) (k r : Fin 4) (d i : Fin 32),
    s.blk.initialised = true → s.blk.noSteer = true → pin.toNat = k.val + 1 → card.toNat = d.val →
    s.blk.dev2slot[d] = some i → routeIndex s.blk.slots[i].route[k] = some r →
    (s.blk.slots[i].dev = none → resolve card pin s = (.nothing, s)) ∧
    (∀ h, s.blk.slots[i].dev = some h →
      ∃ s' : State, answer .none s' = after s s.blk [.devReadCall h 0 0x3C] .none ∧
        (15 < (answerAt s 0 h 0 0x3C).toNat → resolve card pin s = (.nothing, s')) ∧
        (∀ q : Fin 16, (answerAt s 0 h 0 0x3C).toNat = q.val →
          (s.params.nosteerLevelSource = .edge → resolve card pin s = (.line q false, s')) ∧
          (s.params.nosteerLevelSource = .irqIsLevel →
            resolve card pin s = (.line q (isLevel q s').1, (isLevel q s').2))))

/-- 42_interrupt_router.md R206, `SET_IRQ`, command code 0x06, whatever `Resolve` gives: nothing does nothing; an edge line
gets a pulse and its hold mask is neither read nor written; a level line already held by this card is left alone; a level
line held by others only gains the card's bit; a level line held by none is asserted and gains the bit. -/
def Obligations.CardAsserts : Prop :=
  decodeTableWord 8 0x06 = some (.setIrq 0 0) ∧
  ∀ (s s' : State) (card pin : Byte),
    (resolve card pin s = (.nothing, s') →
      exec (.setIrq card pin) s = .next (after s' s'.blk [] .none)) ∧
    ∀ (q : Fin 16) (level : Bool), resolve card pin s = (.line q level, s') →
      ∃ m : HoldMask, (∀ j, m.getLsbD j = (s'.blk.hold[q].getLsbD j || decide (j = card.toNat))) ∧
        (level = false → exec (.setIrq card pin) s = .next (after s' s'.blk [.picEdge q] .none)) ∧
        (level = true → s'.blk.hold[q].getLsbD card.toNat = true →
          exec (.setIrq card pin) s = .next (after s' s'.blk [] .none)) ∧
        (level = true → s'.blk.hold[q].getLsbD card.toNat = false → s'.blk.hold[q] ≠ 0 →
          exec (.setIrq card pin) s =
            .next (after s' { s'.blk with hold := s'.blk.hold.set q m } [] .none)) ∧
        (level = true → s'.blk.hold[q] = 0 →
          exec (.setIrq card pin) s =
            .next (after s' { s'.blk with hold := s'.blk.hold.set q m } [.picLevel q] .none))

/-- 42_interrupt_router.md section 3, `CLEAR_IRQ`: an edge line is cleared every time, its hold mask untouched; a level
line the card does not hold is left alone (decision D23; log 24); one it holds loses exactly its bit, and is cleared when
that was the last. -/
def Obligations.CardClears : Prop :=
  ∀ (s s' : State) (card pin : Byte),
    (resolve card pin s = (.nothing, s') →
      exec (.clearIrq card pin) s = .next (after s' s'.blk [] .none)) ∧
    ∀ (q : Fin 16) (level : Bool), resolve card pin s = (.line q level, s') →
      ∃ m : HoldMask, (∀ j, m.getLsbD j = (s'.blk.hold[q].getLsbD j && decide (j ≠ card.toNat))) ∧
        (level = false → exec (.clearIrq card pin) s = .next (after s' s'.blk [.picClear q] .none)) ∧
        (level = true → s'.blk.hold[q].getLsbD card.toNat = false →
          exec (.clearIrq card pin) s = .next (after s' s'.blk [] .none)) ∧
        (level = true → s'.blk.hold[q].getLsbD card.toNat = true →
          exec (.clearIrq card pin) s =
            .next (after s' { s'.blk with hold := s'.blk.hold.set q m }
              (if m = 0 then [.picClear q] else []) .none))

/-- 42_interrupt_router.md section 4, `SET_MIRQ` (decision D24; log 25): the algorithm of `SET_IRQ` with hold bit 30 + m;
not enabled or routed above 15 does nothing; a number above 2 is refused. -/
def Obligations.MirrorAsserts : Prop :=
  ∀ (s : State) (mirq : Byte) (level : Bool), s.blk.initialised = true →
    (2 < mirq.toNat → exec (.setMirq mirq level) s = .next (after s s.blk [] .none)) ∧
    ∀ n : Fin 3, mirq.toNat = n.val →
      ((s.blk.mirq[n].enabled = false ∨ 15 < s.blk.mirq[n].irq.toNat) →
        exec (.setMirq mirq level) s = .next (after s s.blk [] .none)) ∧
      ∀ q : Fin 16, s.blk.mirq[n].enabled = true → s.blk.mirq[n].irq.toNat = q.val →
        ∃ m : HoldMask, (∀ j, m.getLsbD j = (s.blk.hold[q].getLsbD j || decide (j = 30 + n.val))) ∧
          (level = false → exec (.setMirq mirq level) s = .next (after s s.blk [.picEdge q] .none)) ∧
          (level = true → s.blk.hold[q].getLsbD (30 + n.val) = true →
            exec (.setMirq mirq level) s = .next (after s s.blk [] .none)) ∧
          (level = true → s.blk.hold[q].getLsbD (30 + n.val) = false →
            exec (.setMirq mirq level) s =
              .next (after s { s.blk with hold := s.blk.hold.set q m }
                (if s.blk.hold[q] = 0 then [.picLevel q] else []) .none))

/-- 42_interrupt_router.md section 4, `CLEAR_MIRQ` (decisions D23, D24; log 24, log 25): the algorithm of `CLEAR_IRQ` with
hold bit 30 + m; at 64 bits, so no other source's bit is lost. -/
def Obligations.MirrorClears : Prop :=
  ∀ (s : State) (mirq : Byte) (level : Bool), s.blk.initialised = true →
    (2 < mirq.toNat → exec (.clearMirq mirq level) s = .next (after s s.blk [] .none)) ∧
    ∀ n : Fin 3, mirq.toNat = n.val →
      ((s.blk.mirq[n].enabled = false ∨ 15 < s.blk.mirq[n].irq.toNat) →
        exec (.clearMirq mirq level) s = .next (after s s.blk [] .none)) ∧
      ∀ q : Fin 16, s.blk.mirq[n].enabled = true → s.blk.mirq[n].irq.toNat = q.val →
        ∃ m : HoldMask, (∀ j, m.getLsbD j = (s.blk.hold[q].getLsbD j && decide (j ≠ 30 + n.val))) ∧
          (level = false → exec (.clearMirq mirq level) s = .next (after s s.blk [.picClear q] .none)) ∧
          (level = true → s.blk.hold[q].getLsbD (30 + n.val) = false →
            exec (.clearMirq mirq level) s = .next (after s s.blk [] .none)) ∧
          (level = true → s.blk.hold[q].getLsbD (30 + n.val) = true →
            exec (.clearMirq mirq level) s =
              .next (after s { s.blk with hold := s.blk.hold.set q m }
                (if m = 0 then [.picClear q] else []) .none))

/-- 42_interrupt_router.md R214, both properties. Share-counting: cards wired to one level line nobody holds, asserted one
after the other, give one `PicLevel`, at the first; clearing all but one of them, any of them and in any order, gives no
event and leaves the line held; clearing the one left gives the one `PicClear`. Edge idempotence: two asserts of one edge
routing give two pulses, unlike level routing, where the second assert by the card is suppressed. -/
def Obligations.LevelLinesAreSharedAndEdgesAreNot : Prop :=
  (∀ (s : State) (q : Fin 16) (cards clears : List (Byte × Byte)) (last : Byte × Byte),
    s.blk.hold[q] = 0 → (cards.map Prod.fst).Nodup → (clears ++ [last]).Perm cards →
    (∀ c ∈ cards, SteersTo s.blk c.1 c.2 q true) →
    ∃ t u v : State,
      t = runAll (cards.map fun c => .setIrq c.1 c.2) s ∧
      u = runAll (clears.map fun c => .clearIrq c.1 c.2) t ∧
      exec (.clearIrq last.1 last.2) u = .next v ∧
      eventsSince s.trace.length t = [.picLevel q] ∧ eventsSince t.trace.length u = [] ∧ u.blk.hold[q] ≠ 0 ∧
      eventsSince u.trace.length v = [.picClear q] ∧ v.blk = s.blk) ∧
  (∀ (s : State) (card pin : Byte) (q : Fin 16), SteersTo s.blk card pin q false →
    runAll [.setIrq card pin, .setIrq card pin] s =
      after (after s s.blk [.picEdge q] .none) s.blk [.picEdge q] .none) ∧
  (∀ (s : State) (card pin : Byte) (q : Fin 16), SteersTo s.blk card pin q true →
    ∃ t : State, exec (.setIrq card pin) s = .next t ∧
      exec (.setIrq card pin) t = .next (after t t.blk [] .none))
end

