-- ==== Sys2Proof/Laws/Bits.lean ====
section
/-! SUPPORT. The bit facts the decoder, the registers and the hold masks rest on: taking bytes and fields apart and putting
them together, and the single bit of a source. -/

namespace Sys2Proof

/-- A 16-bit value is its two bytes. -/
@[simp] theorem word_bytes (p : BitVec 16) : p.extractLsb' 8 8 ++ p.extractLsb' 0 8 = p := by
  ext i hi
  simp only [BitVec.getElem_append, BitVec.getElem_extractLsb']
  split <;> rename_i h
  · simp [BitVec.getLsbD_eq_getElem hi]
  · simp [show 8 + (i - 8) = i by omega, BitVec.getLsbD_eq_getElem hi]

/-- A 32-bit value is its four bytes. -/
@[simp] theorem dword_bytes (v : BitVec 32) :
    v.extractLsb' 24 8 ++ v.extractLsb' 16 8 ++ v.extractLsb' 8 8 ++ v.extractLsb' 0 8 = v := by
  ext i hi
  simp only [BitVec.getElem_append, BitVec.getElem_extractLsb']
  split
  · simp [BitVec.getLsbD_eq_getElem hi]
  · split
    · simp [show 8 + (i - 8) = i by omega, BitVec.getLsbD_eq_getElem hi]
    · split
      · simp [show 16 + (i - 8 - 8) = i by omega, BitVec.getLsbD_eq_getElem hi]
      · simp [show 24 + (i - 8 - 8 - 8) = i by omega, BitVec.getLsbD_eq_getElem hi]

/-- The high byte of two joined bytes. -/
@[simp] theorem word_high (a b : Byte) : (a ++ b).extractLsb' 8 8 = a := by
  apply BitVec.eq_of_getLsbD_eq; intro i hi
  rw [BitVec.getLsbD_extractLsb', BitVec.getLsbD_append]
  simp [hi]

/-- The low byte of two joined bytes. -/
@[simp] theorem word_low (a b : Byte) : (a ++ b).extractLsb' 0 8 = b := by
  apply BitVec.eq_of_getLsbD_eq; intro i hi
  rw [BitVec.getLsbD_extractLsb', BitVec.getLsbD_append]
  simp [hi]

/-- The bytes of four joined bytes, most significant first. -/
@[simp] theorem dwordBytes_join (a b c d : Byte) : dwordBytes (a ++ b ++ c ++ d) = [d, c, b, a] := by
  have byte (k : Nat) (x : Byte) (hx : ∀ i < 8, (a ++ b ++ c ++ d).getLsbD (k + i) = x.getLsbD i) :
      (a ++ b ++ c ++ d).extractLsb' k 8 = x := by
    apply BitVec.eq_of_getLsbD_eq
    intro i hi
    rw [BitVec.getLsbD_extractLsb', hx i hi]
    simp [hi]
  simp only [dwordBytes, List.cons.injEq, and_true]
  refine ⟨byte 0 d ?_, byte 8 c ?_, byte 16 b ?_, byte 24 a ?_⟩ <;> intro i hi <;>
    rw [BitVec.getLsbD_append, BitVec.getLsbD_append, BitVec.getLsbD_append]
  · simp [hi]
  · rw [if_neg (by omega), if_pos (by omega)]; congr 1; omega
  · rw [if_neg (by omega), if_neg (by omega), if_pos (by omega)]; congr 1; omega
  · rw [if_neg (by omega), if_neg (by omega), if_neg (by omega)]; congr 1; omega

end Sys2Proof

namespace Sys2Proof.Machine

open Sys2Proof

/-- The one bit of a source's hold bit (42_interrupt_router.md R215). -/
@[simp] theorem getLsbD_bit64 (k j : Nat) : (bit64 k).getLsbD j = (decide (j < 64) && decide (j = k)) := by
  have h1 : (bit64 k) = (1#64 <<< k) := rfl
  rw [h1, BitVec.getLsbD_shiftLeft, BitVec.getLsbD_one]
  by_cases h : j < 64 <;> by_cases h' : j = k <;> simp_all
  omega

/-- A source is absent from a mask exactly when its bit is 0. -/
theorem and_bit64_eq_zero (m : HoldMask) (k : Nat) (hk : k < 64) : m &&& bit64 k = 0 ↔ m.getLsbD k = false := by
  constructor
  · intro h
    have := congrArg (fun x => BitVec.getLsbD x k) h
    simp only [BitVec.getLsbD_and, getLsbD_bit64, hk] at this
    simpa using this
  · intro h
    apply BitVec.eq_of_getLsbD_eq; intro j hj
    rw [BitVec.getLsbD_and, getLsbD_bit64]
    by_cases e : j = k
    · subst e; simp [h]
    · simp [e]

end Sys2Proof.Machine
end

