-- ==== Sys2Proof/Laws/State.lean ====
section
/-! SUPPORT. One lemma per field per update, true by rfl, for the updates of State (emit, emitAll, answer, withBlock) and
of Block (setHold, clearDecoder, appendSlot, bindSlot, setRoute, setMirqEntry). -/

namespace Sys2Proof.Machine

open Sys2Proof

@[simp] theorem emit_blk (e : Event) (s : State) : (emit e s).blk = s.blk := rfl
@[simp] theorem emit_params (e : Event) (s : State) : (emit e s).params = s.params := rfl
@[simp] theorem emit_pending (e : Event) (s : State) : (emit e s).pending = s.pending := rfl
@[simp] theorem emit_env (e : Event) (s : State) : (emit e s).env = s.env := rfl
@[simp] theorem emit_trace (e : Event) (s : State) : (emit e s).trace = s.trace ++ [.event e] := rfl

@[simp] theorem emitAll_blk (es : List Event) (s : State) : (emitAll es s).blk = s.blk := rfl
@[simp] theorem emitAll_params (es : List Event) (s : State) : (emitAll es s).params = s.params := rfl
@[simp] theorem emitAll_pending (es : List Event) (s : State) : (emitAll es s).pending = s.pending := rfl
@[simp] theorem emitAll_env (es : List Event) (s : State) : (emitAll es s).env = s.env := rfl
@[simp] theorem emitAll_trace (es : List Event) (s : State) : (emitAll es s).trace = s.trace ++ es.map .event := rfl

@[simp] theorem answer_blk (r : Result) (s : State) : (answer r s).blk = s.blk := rfl
@[simp] theorem answer_params (r : Result) (s : State) : (answer r s).params = s.params := rfl
@[simp] theorem answer_pending (r : Result) (s : State) : (answer r s).pending = s.pending := rfl
@[simp] theorem answer_env (r : Result) (s : State) : (answer r s).env = s.env := rfl
@[simp] theorem answer_trace (r : Result) (s : State) : (answer r s).trace = s.trace ++ [.result r] := rfl

@[simp] theorem withBlock_blk (b : Block) (s : State) : (withBlock b s).blk = b := rfl
@[simp] theorem withBlock_params (b : Block) (s : State) : (withBlock b s).params = s.params := rfl
@[simp] theorem withBlock_pending (b : Block) (s : State) : (withBlock b s).pending = s.pending := rfl
@[simp] theorem withBlock_env (b : Block) (s : State) : (withBlock b s).env = s.env := rfl
@[simp] theorem withBlock_trace (b : Block) (s : State) : (withBlock b s).trace = s.trace := rfl

@[simp] theorem setHold_initialised (q : Fin 16) (m : HoldMask) (b : Block) : (setHold q m b).initialised = b.initialised := rfl
@[simp] theorem setHold_mech (q : Fin 16) (m : HoldMask) (b : Block) : (setHold q m b).mech = b.mech := rfl
@[simp] theorem setHold_noSteer (q : Fin 16) (m : HoldMask) (b : Block) : (setHold q m b).noSteer = b.noSteer := rfl
@[simp] theorem setHold_slots (q : Fin 16) (m : HoldMask) (b : Block) : (setHold q m b).slots = b.slots := rfl
@[simp] theorem setHold_nslots (q : Fin 16) (m : HoldMask) (b : Block) : (setHold q m b).nslots = b.nslots := rfl
@[simp] theorem setHold_dev2slot (q : Fin 16) (m : HoldMask) (b : Block) : (setHold q m b).dev2slot = b.dev2slot := rfl
@[simp] theorem setHold_irqRoute (q : Fin 16) (m : HoldMask) (b : Block) : (setHold q m b).irqRoute = b.irqRoute := rfl
@[simp] theorem setHold_mirq (q : Fin 16) (m : HoldMask) (b : Block) : (setHold q m b).mirq = b.mirq := rfl
@[simp] theorem setHold_hold (q : Fin 16) (m : HoldMask) (b : Block) : (setHold q m b).hold = b.hold.set q m := rfl
@[simp] theorem setHold_caReg (q : Fin 16) (m : HoldMask) (b : Block) : (setHold q m b).caReg = b.caReg := rfl
@[simp] theorem setHold_caFunc (q : Fin 16) (m : HoldMask) (b : Block) : (setHold q m b).caFunc = b.caFunc := rfl
@[simp] theorem setHold_caDev (q : Fin 16) (m : HoldMask) (b : Block) : (setHold q m b).caDev = b.caDev := rfl
@[simp] theorem setHold_caBus (q : Fin 16) (m : HoldMask) (b : Block) : (setHold q m b).caBus = b.caBus := rfl
@[simp] theorem setHold_caEn (q : Fin 16) (m : HoldMask) (b : Block) : (setHold q m b).caEn = b.caEn := rfl
@[simp] theorem setHold_t2Func (q : Fin 16) (m : HoldMask) (b : Block) : (setHold q m b).t2Func = b.t2Func := rfl
@[simp] theorem setHold_t2Key (q : Fin 16) (m : HoldMask) (b : Block) : (setHold q m b).t2Key = b.t2Key := rfl
@[simp] theorem setHold_t2Bus (q : Fin 16) (m : HoldMask) (b : Block) : (setHold q m b).t2Bus = b.t2Bus := rfl
@[simp] theorem setHold_pmc (q : Fin 16) (m : HoldMask) (b : Block) : (setHold q m b).pmc = b.pmc := rfl
@[simp] theorem setHold_elcr0 (q : Fin 16) (m : HoldMask) (b : Block) : (setHold q m b).elcr0 = b.elcr0 := rfl
@[simp] theorem setHold_elcr1 (q : Fin 16) (m : HoldMask) (b : Block) : (setHold q m b).elcr1 = b.elcr1 := rfl
@[simp] theorem setHold_elcrEn (q : Fin 16) (m : HoldMask) (b : Block) : (setHold q m b).elcrEn = b.elcrEn := rfl
@[simp] theorem setHold_trc (q : Fin 16) (m : HoldMask) (b : Block) : (setHold q m b).trc = b.trc := rfl

@[simp] theorem clearDecoder_initialised (b : Block) : (clearDecoder b).initialised = b.initialised := rfl
@[simp] theorem clearDecoder_mech (b : Block) : (clearDecoder b).mech = b.mech := rfl
@[simp] theorem clearDecoder_noSteer (b : Block) : (clearDecoder b).noSteer = b.noSteer := rfl
@[simp] theorem clearDecoder_slots (b : Block) : (clearDecoder b).slots = b.slots := rfl
@[simp] theorem clearDecoder_nslots (b : Block) : (clearDecoder b).nslots = b.nslots := rfl
@[simp] theorem clearDecoder_dev2slot (b : Block) : (clearDecoder b).dev2slot = b.dev2slot := rfl
@[simp] theorem clearDecoder_irqRoute (b : Block) : (clearDecoder b).irqRoute = b.irqRoute := rfl
@[simp] theorem clearDecoder_mirq (b : Block) : (clearDecoder b).mirq = b.mirq := rfl
@[simp] theorem clearDecoder_hold (b : Block) : (clearDecoder b).hold = b.hold := rfl
@[simp] theorem clearDecoder_caReg (b : Block) : (clearDecoder b).caReg = 0 := rfl
@[simp] theorem clearDecoder_caFunc (b : Block) : (clearDecoder b).caFunc = 0 := rfl
@[simp] theorem clearDecoder_caDev (b : Block) : (clearDecoder b).caDev = 0 := rfl
@[simp] theorem clearDecoder_caBus (b : Block) : (clearDecoder b).caBus = 0 := rfl
@[simp] theorem clearDecoder_caEn (b : Block) : (clearDecoder b).caEn = false := rfl
@[simp] theorem clearDecoder_t2Func (b : Block) : (clearDecoder b).t2Func = 0 := rfl
@[simp] theorem clearDecoder_t2Key (b : Block) : (clearDecoder b).t2Key = 0 := rfl
@[simp] theorem clearDecoder_t2Bus (b : Block) : (clearDecoder b).t2Bus = 0 := rfl
@[simp] theorem clearDecoder_pmc (b : Block) : (clearDecoder b).pmc = b.pmc := rfl
@[simp] theorem clearDecoder_elcr0 (b : Block) : (clearDecoder b).elcr0 = b.elcr0 := rfl
@[simp] theorem clearDecoder_elcr1 (b : Block) : (clearDecoder b).elcr1 = b.elcr1 := rfl
@[simp] theorem clearDecoder_elcrEn (b : Block) : (clearDecoder b).elcrEn = b.elcrEn := rfl
@[simp] theorem clearDecoder_trc (b : Block) : (clearDecoder b).trc = b.trc := rfl

@[simp] theorem appendSlot_initialised (i d : Fin 32) (slot : Slot) (b : Block) : (appendSlot i d slot b).initialised = b.initialised := rfl
@[simp] theorem appendSlot_mech (i d : Fin 32) (slot : Slot) (b : Block) : (appendSlot i d slot b).mech = b.mech := rfl
@[simp] theorem appendSlot_noSteer (i d : Fin 32) (slot : Slot) (b : Block) : (appendSlot i d slot b).noSteer = b.noSteer := rfl
@[simp] theorem appendSlot_slots (i d : Fin 32) (slot : Slot) (b : Block) : (appendSlot i d slot b).slots = b.slots.set i slot := rfl
@[simp] theorem appendSlot_nslots (i d : Fin 32) (slot : Slot) (b : Block) : (appendSlot i d slot b).nslots = i.val + 1 := rfl
@[simp] theorem appendSlot_dev2slot (i d : Fin 32) (slot : Slot) (b : Block) : (appendSlot i d slot b).dev2slot = b.dev2slot.set d (some i) := rfl
@[simp] theorem appendSlot_irqRoute (i d : Fin 32) (slot : Slot) (b : Block) : (appendSlot i d slot b).irqRoute = b.irqRoute := rfl
@[simp] theorem appendSlot_mirq (i d : Fin 32) (slot : Slot) (b : Block) : (appendSlot i d slot b).mirq = b.mirq := rfl
@[simp] theorem appendSlot_hold (i d : Fin 32) (slot : Slot) (b : Block) : (appendSlot i d slot b).hold = b.hold := rfl
@[simp] theorem appendSlot_caReg (i d : Fin 32) (slot : Slot) (b : Block) : (appendSlot i d slot b).caReg = b.caReg := rfl
@[simp] theorem appendSlot_caFunc (i d : Fin 32) (slot : Slot) (b : Block) : (appendSlot i d slot b).caFunc = b.caFunc := rfl
@[simp] theorem appendSlot_caDev (i d : Fin 32) (slot : Slot) (b : Block) : (appendSlot i d slot b).caDev = b.caDev := rfl
@[simp] theorem appendSlot_caBus (i d : Fin 32) (slot : Slot) (b : Block) : (appendSlot i d slot b).caBus = b.caBus := rfl
@[simp] theorem appendSlot_caEn (i d : Fin 32) (slot : Slot) (b : Block) : (appendSlot i d slot b).caEn = b.caEn := rfl
@[simp] theorem appendSlot_t2Func (i d : Fin 32) (slot : Slot) (b : Block) : (appendSlot i d slot b).t2Func = b.t2Func := rfl
@[simp] theorem appendSlot_t2Key (i d : Fin 32) (slot : Slot) (b : Block) : (appendSlot i d slot b).t2Key = b.t2Key := rfl
@[simp] theorem appendSlot_t2Bus (i d : Fin 32) (slot : Slot) (b : Block) : (appendSlot i d slot b).t2Bus = b.t2Bus := rfl
@[simp] theorem appendSlot_pmc (i d : Fin 32) (slot : Slot) (b : Block) : (appendSlot i d slot b).pmc = b.pmc := rfl
@[simp] theorem appendSlot_elcr0 (i d : Fin 32) (slot : Slot) (b : Block) : (appendSlot i d slot b).elcr0 = b.elcr0 := rfl
@[simp] theorem appendSlot_elcr1 (i d : Fin 32) (slot : Slot) (b : Block) : (appendSlot i d slot b).elcr1 = b.elcr1 := rfl
@[simp] theorem appendSlot_elcrEn (i d : Fin 32) (slot : Slot) (b : Block) : (appendSlot i d slot b).elcrEn = b.elcrEn := rfl
@[simp] theorem appendSlot_trc (i d : Fin 32) (slot : Slot) (b : Block) : (appendSlot i d slot b).trc = b.trc := rfl

@[simp] theorem bindSlot_initialised (i : Fin 32) (h : Handle) (b : Block) : (bindSlot i h b).initialised = b.initialised := rfl
@[simp] theorem bindSlot_mech (i : Fin 32) (h : Handle) (b : Block) : (bindSlot i h b).mech = b.mech := rfl
@[simp] theorem bindSlot_noSteer (i : Fin 32) (h : Handle) (b : Block) : (bindSlot i h b).noSteer = b.noSteer := rfl
@[simp] theorem bindSlot_slots (i : Fin 32) (h : Handle) (b : Block) : (bindSlot i h b).slots = b.slots.set i { b.slots[i] with dev := some h } := rfl
@[simp] theorem bindSlot_nslots (i : Fin 32) (h : Handle) (b : Block) : (bindSlot i h b).nslots = b.nslots := rfl
@[simp] theorem bindSlot_dev2slot (i : Fin 32) (h : Handle) (b : Block) : (bindSlot i h b).dev2slot = b.dev2slot := rfl
@[simp] theorem bindSlot_irqRoute (i : Fin 32) (h : Handle) (b : Block) : (bindSlot i h b).irqRoute = b.irqRoute := rfl
@[simp] theorem bindSlot_mirq (i : Fin 32) (h : Handle) (b : Block) : (bindSlot i h b).mirq = b.mirq := rfl
@[simp] theorem bindSlot_hold (i : Fin 32) (h : Handle) (b : Block) : (bindSlot i h b).hold = b.hold := rfl
@[simp] theorem bindSlot_caReg (i : Fin 32) (h : Handle) (b : Block) : (bindSlot i h b).caReg = b.caReg := rfl
@[simp] theorem bindSlot_caFunc (i : Fin 32) (h : Handle) (b : Block) : (bindSlot i h b).caFunc = b.caFunc := rfl
@[simp] theorem bindSlot_caDev (i : Fin 32) (h : Handle) (b : Block) : (bindSlot i h b).caDev = b.caDev := rfl
@[simp] theorem bindSlot_caBus (i : Fin 32) (h : Handle) (b : Block) : (bindSlot i h b).caBus = b.caBus := rfl
@[simp] theorem bindSlot_caEn (i : Fin 32) (h : Handle) (b : Block) : (bindSlot i h b).caEn = b.caEn := rfl
@[simp] theorem bindSlot_t2Func (i : Fin 32) (h : Handle) (b : Block) : (bindSlot i h b).t2Func = b.t2Func := rfl
@[simp] theorem bindSlot_t2Key (i : Fin 32) (h : Handle) (b : Block) : (bindSlot i h b).t2Key = b.t2Key := rfl
@[simp] theorem bindSlot_t2Bus (i : Fin 32) (h : Handle) (b : Block) : (bindSlot i h b).t2Bus = b.t2Bus := rfl
@[simp] theorem bindSlot_pmc (i : Fin 32) (h : Handle) (b : Block) : (bindSlot i h b).pmc = b.pmc := rfl
@[simp] theorem bindSlot_elcr0 (i : Fin 32) (h : Handle) (b : Block) : (bindSlot i h b).elcr0 = b.elcr0 := rfl
@[simp] theorem bindSlot_elcr1 (i : Fin 32) (h : Handle) (b : Block) : (bindSlot i h b).elcr1 = b.elcr1 := rfl
@[simp] theorem bindSlot_elcrEn (i : Fin 32) (h : Handle) (b : Block) : (bindSlot i h b).elcrEn = b.elcrEn := rfl
@[simp] theorem bindSlot_trc (i : Fin 32) (h : Handle) (b : Block) : (bindSlot i h b).trc = b.trc := rfl

@[simp] theorem setRoute_initialised (k : Fin 4) (r : IrqRoute) (b : Block) : (setRoute k r b).initialised = b.initialised := rfl
@[simp] theorem setRoute_mech (k : Fin 4) (r : IrqRoute) (b : Block) : (setRoute k r b).mech = b.mech := rfl
@[simp] theorem setRoute_noSteer (k : Fin 4) (r : IrqRoute) (b : Block) : (setRoute k r b).noSteer = b.noSteer := rfl
@[simp] theorem setRoute_slots (k : Fin 4) (r : IrqRoute) (b : Block) : (setRoute k r b).slots = b.slots := rfl
@[simp] theorem setRoute_nslots (k : Fin 4) (r : IrqRoute) (b : Block) : (setRoute k r b).nslots = b.nslots := rfl
@[simp] theorem setRoute_dev2slot (k : Fin 4) (r : IrqRoute) (b : Block) : (setRoute k r b).dev2slot = b.dev2slot := rfl
@[simp] theorem setRoute_irqRoute (k : Fin 4) (r : IrqRoute) (b : Block) : (setRoute k r b).irqRoute = b.irqRoute.set k r := rfl
@[simp] theorem setRoute_mirq (k : Fin 4) (r : IrqRoute) (b : Block) : (setRoute k r b).mirq = b.mirq := rfl
@[simp] theorem setRoute_hold (k : Fin 4) (r : IrqRoute) (b : Block) : (setRoute k r b).hold = b.hold := rfl
@[simp] theorem setRoute_caReg (k : Fin 4) (r : IrqRoute) (b : Block) : (setRoute k r b).caReg = b.caReg := rfl
@[simp] theorem setRoute_caFunc (k : Fin 4) (r : IrqRoute) (b : Block) : (setRoute k r b).caFunc = b.caFunc := rfl
@[simp] theorem setRoute_caDev (k : Fin 4) (r : IrqRoute) (b : Block) : (setRoute k r b).caDev = b.caDev := rfl
@[simp] theorem setRoute_caBus (k : Fin 4) (r : IrqRoute) (b : Block) : (setRoute k r b).caBus = b.caBus := rfl
@[simp] theorem setRoute_caEn (k : Fin 4) (r : IrqRoute) (b : Block) : (setRoute k r b).caEn = b.caEn := rfl
@[simp] theorem setRoute_t2Func (k : Fin 4) (r : IrqRoute) (b : Block) : (setRoute k r b).t2Func = b.t2Func := rfl
@[simp] theorem setRoute_t2Key (k : Fin 4) (r : IrqRoute) (b : Block) : (setRoute k r b).t2Key = b.t2Key := rfl
@[simp] theorem setRoute_t2Bus (k : Fin 4) (r : IrqRoute) (b : Block) : (setRoute k r b).t2Bus = b.t2Bus := rfl
@[simp] theorem setRoute_pmc (k : Fin 4) (r : IrqRoute) (b : Block) : (setRoute k r b).pmc = b.pmc := rfl
@[simp] theorem setRoute_elcr0 (k : Fin 4) (r : IrqRoute) (b : Block) : (setRoute k r b).elcr0 = b.elcr0 := rfl
@[simp] theorem setRoute_elcr1 (k : Fin 4) (r : IrqRoute) (b : Block) : (setRoute k r b).elcr1 = b.elcr1 := rfl
@[simp] theorem setRoute_elcrEn (k : Fin 4) (r : IrqRoute) (b : Block) : (setRoute k r b).elcrEn = b.elcrEn := rfl
@[simp] theorem setRoute_trc (k : Fin 4) (r : IrqRoute) (b : Block) : (setRoute k r b).trc = b.trc := rfl

@[simp] theorem setMirqEntry_initialised (m : Fin 3) (e : MirqEntry) (b : Block) : (setMirqEntry m e b).initialised = b.initialised := rfl
@[simp] theorem setMirqEntry_mech (m : Fin 3) (e : MirqEntry) (b : Block) : (setMirqEntry m e b).mech = b.mech := rfl
@[simp] theorem setMirqEntry_noSteer (m : Fin 3) (e : MirqEntry) (b : Block) : (setMirqEntry m e b).noSteer = b.noSteer := rfl
@[simp] theorem setMirqEntry_slots (m : Fin 3) (e : MirqEntry) (b : Block) : (setMirqEntry m e b).slots = b.slots := rfl
@[simp] theorem setMirqEntry_nslots (m : Fin 3) (e : MirqEntry) (b : Block) : (setMirqEntry m e b).nslots = b.nslots := rfl
@[simp] theorem setMirqEntry_dev2slot (m : Fin 3) (e : MirqEntry) (b : Block) : (setMirqEntry m e b).dev2slot = b.dev2slot := rfl
@[simp] theorem setMirqEntry_irqRoute (m : Fin 3) (e : MirqEntry) (b : Block) : (setMirqEntry m e b).irqRoute = b.irqRoute := rfl
@[simp] theorem setMirqEntry_mirq (m : Fin 3) (e : MirqEntry) (b : Block) : (setMirqEntry m e b).mirq = b.mirq.set m e := rfl
@[simp] theorem setMirqEntry_hold (m : Fin 3) (e : MirqEntry) (b : Block) : (setMirqEntry m e b).hold = b.hold := rfl
@[simp] theorem setMirqEntry_caReg (m : Fin 3) (e : MirqEntry) (b : Block) : (setMirqEntry m e b).caReg = b.caReg := rfl
@[simp] theorem setMirqEntry_caFunc (m : Fin 3) (e : MirqEntry) (b : Block) : (setMirqEntry m e b).caFunc = b.caFunc := rfl
@[simp] theorem setMirqEntry_caDev (m : Fin 3) (e : MirqEntry) (b : Block) : (setMirqEntry m e b).caDev = b.caDev := rfl
@[simp] theorem setMirqEntry_caBus (m : Fin 3) (e : MirqEntry) (b : Block) : (setMirqEntry m e b).caBus = b.caBus := rfl
@[simp] theorem setMirqEntry_caEn (m : Fin 3) (e : MirqEntry) (b : Block) : (setMirqEntry m e b).caEn = b.caEn := rfl
@[simp] theorem setMirqEntry_t2Func (m : Fin 3) (e : MirqEntry) (b : Block) : (setMirqEntry m e b).t2Func = b.t2Func := rfl
@[simp] theorem setMirqEntry_t2Key (m : Fin 3) (e : MirqEntry) (b : Block) : (setMirqEntry m e b).t2Key = b.t2Key := rfl
@[simp] theorem setMirqEntry_t2Bus (m : Fin 3) (e : MirqEntry) (b : Block) : (setMirqEntry m e b).t2Bus = b.t2Bus := rfl
@[simp] theorem setMirqEntry_pmc (m : Fin 3) (e : MirqEntry) (b : Block) : (setMirqEntry m e b).pmc = b.pmc := rfl
@[simp] theorem setMirqEntry_elcr0 (m : Fin 3) (e : MirqEntry) (b : Block) : (setMirqEntry m e b).elcr0 = b.elcr0 := rfl
@[simp] theorem setMirqEntry_elcr1 (m : Fin 3) (e : MirqEntry) (b : Block) : (setMirqEntry m e b).elcr1 = b.elcr1 := rfl
@[simp] theorem setMirqEntry_elcrEn (m : Fin 3) (e : MirqEntry) (b : Block) : (setMirqEntry m e b).elcrEn = b.elcrEn := rfl
@[simp] theorem setMirqEntry_trc (m : Fin 3) (e : MirqEntry) (b : Block) : (setMirqEntry m e b).trc = b.trc := rfl

end Sys2Proof.Machine
end

