-- ==== Sys2Proof/Laws/Ops.lean ====
section
/-! SUPPORT. One lemma per shared operation that says everything it can do, so that no later proof unfolds it. -/

namespace Sys2Proof.Machine

open Sys2Proof

/-- An operation that emits nothing and leaves the block as it is. -/
theorem complete_eq_after (r : Result) (s : State) : complete r s = .next (after s s.blk [] r) := by
  simp [complete, answer, after]

/-- Refusing changes nothing but the observation. -/
theorem refuse_eq_after (s : State) : refuse s = .next (after s s.blk [] .none) := complete_eq_after .none s

/-- An operation that emits nothing and gives the block another value. -/
theorem complete_withBlock (r : Result) (b : Block) (s : State) :
    complete r (withBlock b s) = .next (after s b [] r) := by
  simp [complete, answer, after, withBlock]

/-- Writing the block it has changes no state. -/
@[simp] theorem withBlock_self (s : State) : withBlock s.blk s = s := rfl

/-- `boundDevice` is the dispatch of 40_config_decoder.md R131. -/
theorem boundDevice_eq_some (dev : BitVec 5) (b : Block) (h : Handle) :
    boundDevice dev b = some h ↔ Reaches b dev h := by
  unfold boundDevice Reaches
  cases hd : b.dev2slot[dev.toFin] <;> simp

/-- No device is reached exactly when the dispatch finds none. -/
theorem boundDevice_eq_none (dev : BitVec 5) (b : Block) :
    boundDevice dev b = none ↔ ∀ h, ¬ Reaches b dev h := by
  simp only [← boundDevice_eq_some, Option.eq_none_iff_forall_ne_some, ne_eq]

/-- The answer to the next device read is the environment's 0-th from now on. -/
theorem devAnswer_eq (h : Handle) (func : BitVec 3) (addr : Byte) (s : State) :
    devAnswer h func addr s = answerAt s 0 h func addr := rfl

/-- `CfgRead8` that reaches a device is one call of its read port. -/
theorem cfgRead8_of_reaches {dev : BitVec 5} {func : BitVec 3} {addr : Byte} {s : State} {h : Handle}
    (hr : Reaches s.blk dev h) : cfgRead8 dev func addr s = devRead h func addr s := by
  rw [cfgRead8, (boundDevice_eq_some dev s.blk h).2 hr]

/-- `CfgRead8` that reaches no device reads 0xFF and calls nothing. -/
theorem cfgRead8_of_not_reaches {dev : BitVec 5} {func : BitVec 3} {addr : Byte} {s : State}
    (hr : ∀ h, ¬ Reaches s.blk dev h) : cfgRead8 dev func addr s = (0xFF, s) := by
  rw [cfgRead8, (boundDevice_eq_none dev s.blk).2 hr]

/-- `CfgWrite8` that reaches a device is one call of its write port. -/
theorem cfgWrite8_of_reaches {dev : BitVec 5} {func : BitVec 3} {addr v : Byte} {s : State} {h : Handle}
    (hr : Reaches s.blk dev h) : cfgWrite8 dev func addr v s = emit (.devWrite h func addr v) s := by
  rw [cfgWrite8, (boundDevice_eq_some dev s.blk h).2 hr]

/-- `CfgWrite8` that reaches no device does nothing. -/
theorem cfgWrite8_of_not_reaches {dev : BitVec 5} {func : BitVec 3} {addr v : Byte} {s : State}
    (hr : ∀ h, ¬ Reaches s.blk dev h) : cfgWrite8 dev func addr v s = s := by
  rw [cfgWrite8, (boundDevice_eq_none dev s.blk).2 hr]

/-- A configuration read is no call at all or one device call, and it changes only the environment and the observation. -/
theorem cfgRead8_state (dev : BitVec 5) (func : BitVec 3) (addr : Byte) (s : State) :
    (cfgRead8 dev func addr s).2 = s ∨ ∃ h, (cfgRead8 dev func addr s).2 = (devRead h func addr s).2 := by
  unfold cfgRead8
  cases boundDevice dev s.blk with
  | none => exact .inl rfl
  | some h => exact .inr ⟨h, rfl⟩

/-- A configuration write is no call at all or one device call. -/
theorem cfgWrite8_state (dev : BitVec 5) (func : BitVec 3) (addr v : Byte) (s : State) :
    cfgWrite8 dev func addr v s = s ∨ ∃ h, cfgWrite8 dev func addr v s = emit (.devWrite h func addr v) s := by
  unfold cfgWrite8
  cases boundDevice dev s.blk with
  | none => exact .inl rfl
  | some h => exact .inr ⟨h, rfl⟩

/-- A device call leaves the block, the parameters and the pending operations. -/
@[simp] theorem devRead_blk (h : Handle) (func : BitVec 3) (addr : Byte) (s : State) :
    (devRead h func addr s).2.blk = s.blk := rfl

@[simp] theorem devRead_params (h : Handle) (func : BitVec 3) (addr : Byte) (s : State) :
    (devRead h func addr s).2.params = s.params := rfl

@[simp] theorem devRead_pending (h : Handle) (func : BitVec 3) (addr : Byte) (s : State) :
    (devRead h func addr s).2.pending = s.pending := rfl

@[simp] theorem devRead_trace (h : Handle) (func : BitVec 3) (addr : Byte) (s : State) :
    (devRead h func addr s).2.trace = s.trace ++ [.event (.devReadCall h func addr)] := rfl

/-- The mode-bit query leaves everything but its counter. -/
@[simp] theorem picLtim_blk (half : PicHalf) (s : State) : (picLtim half s).2.blk = s.blk := rfl

@[simp] theorem picLtim_trace (half : PicHalf) (s : State) : (picLtim half s).2.trace = s.trace := rfl

/-- The level query never changes the block, the parameters, the pending operations or the observation. -/
theorem isLevel_frame (q : Fin 16) (s : State) :
    (isLevel q s).2.blk = s.blk ∧ (isLevel q s).2.params = s.params ∧ (isLevel q s).2.pending = s.pending ∧
      (isLevel q s).2.trace = s.trace := by
  unfold isLevel
  split
  · simp
  · split <;> simp [picLtim]

/-- Everything the assert algorithm can do (42_interrupt_router.md R206, R210). -/
theorem assertLine_cases (q : Fin 16) (level : Bool) (bit : HoldMask) (s : State) :
    (level = false ∧ assertLine q level bit s = emit (.picEdge q) s) ∨
    (level = true ∧ s.blk.hold[q] &&& bit ≠ 0 ∧ assertLine q level bit s = s) ∨
    (level = true ∧ s.blk.hold[q] &&& bit = 0 ∧ s.blk.hold[q] ≠ 0 ∧
      assertLine q level bit s = withBlock (setHold q (s.blk.hold[q] ||| bit) s.blk) s) ∨
    (level = true ∧ s.blk.hold[q] = 0 ∧
      assertLine q level bit s = withBlock (setHold q bit s.blk) (emit (.picLevel q) s)) := by
  cases level
  · exact .inl ⟨rfl, rfl⟩
  · by_cases hz : s.blk.hold[q] = 0
    · exact .inr (.inr (.inr ⟨rfl, hz, by rw [assertLine, if_pos rfl, if_neg (by simp [hz]), if_pos hz, hz, show (0 : HoldMask) ||| bit = bit from BitVec.zero_or]⟩))
    · by_cases hb : s.blk.hold[q] &&& bit = 0
      · exact .inr (.inr (.inl ⟨rfl, hb, hz, by rw [assertLine, if_pos rfl, if_neg (not_not.2 hb), if_neg hz]⟩))
      · exact .inr (.inl ⟨rfl, hb, by rw [assertLine, if_pos rfl, if_pos hb]⟩)

/-- Everything the clear algorithm can do (42_interrupt_router.md R207, R211). -/
theorem releaseLine_cases (q : Fin 16) (level : Bool) (bit : HoldMask) (s : State) :
    (level = false ∧ releaseLine q level bit s = emit (.picClear q) s) ∨
    (level = true ∧ s.blk.hold[q] &&& bit = 0 ∧ releaseLine q level bit s = s) ∨
    (level = true ∧ s.blk.hold[q] &&& bit ≠ 0 ∧ s.blk.hold[q] &&& ~~~bit ≠ 0 ∧
      releaseLine q level bit s = withBlock (setHold q (s.blk.hold[q] &&& ~~~bit) s.blk) s) ∨
    (level = true ∧ s.blk.hold[q] &&& bit ≠ 0 ∧ s.blk.hold[q] &&& ~~~bit = 0 ∧
      releaseLine q level bit s = emit (.picClear q) (withBlock (setHold q 0 s.blk) s)) := by
  cases level
  · exact .inl ⟨rfl, rfl⟩
  · by_cases hb : s.blk.hold[q] &&& bit = 0
    · exact .inr (.inl ⟨rfl, hb, by rw [releaseLine, if_pos rfl, if_pos hb]⟩)
    · by_cases hz : s.blk.hold[q] &&& ~~~bit = 0
      · exact .inr (.inr (.inr ⟨rfl, hb, hz, by rw [releaseLine, if_pos rfl, if_neg hb, if_pos hz, hz]⟩))
      · exact .inr (.inr (.inl ⟨rfl, hb, hz, by rw [releaseLine, if_pos rfl, if_neg hb, if_neg hz]⟩))

/-- The held lines are those with a non-zero mask. -/
@[simp] theorem mem_heldLines (q : Fin 16) (b : Block) : q ∈ heldLines b ↔ b.hold[q] ≠ 0 := by
  simp [heldLines]

/-- The held lines come in ascending order (43_elcr_trc.md R251). -/
theorem heldLines_ascending (b : Block) : (heldLines b).Pairwise (· < ·) :=
  (List.pairwise_lt_finRange 16).filter _

/-- The block after `Reset()` (43_elcr_trc.md R251, 10_state.md R46). -/
theorem subsystemReset_blk (s : State) :
    (subsystemReset s).blk =
      { s.blk with
          hold := Vector.replicate 16 0, elcr0 := 0, elcr1 := 0
          caReg := 0, caFunc := 0, caDev := 0, caBus := 0, caEn := false
          t2Func := 0, t2Key := 0, t2Bus := 0, pmc := false } := rfl

@[simp] theorem subsystemReset_params (s : State) : (subsystemReset s).params = s.params := rfl

@[simp] theorem subsystemReset_pending (s : State) : (subsystemReset s).pending = s.pending := rfl

@[simp] theorem subsystemReset_env (s : State) : (subsystemReset s).env = s.env := rfl

/-- `Reset()` emits one `PicClear` per held line (43_elcr_trc.md R251). -/
theorem subsystemReset_trace (s : State) :
    (subsystemReset s).trace = s.trace ++ ((heldLines s.blk).map .picClear).map .event := rfl

/-- The cascade changes the block as `Reset()` does (43_elcr_trc.md R249). -/
theorem cascade_blk (s : State) : (cascade s).blk = (subsystemReset s).blk := rfl

@[simp] theorem cascade_params (s : State) : (cascade s).params = s.params := rfl

@[simp] theorem cascade_pending (s : State) : (cascade s).pending = s.pending := rfl

@[simp] theorem cascade_env (s : State) : (cascade s).env = s.env := rfl

/-- The events of the cascade, in the document's order (43_elcr_trc.md R249). -/
theorem cascade_trace (s : State) :
    (cascade s).trace = s.trace ++
      (([.strobe .dmaReset, .strobe .deviceResetAll, .strobe .cpuAltResetClear] ++ (heldLines s.blk).map .picClear ++
        [.strobe .kbcReset, .strobe .a20Reset, .strobe .mmuFlush] : List Event)).map .event := by
  simp [cascade, subsystemReset_trace]

end Sys2Proof.Machine
end

