-- ==== Sys2Proof/Laws/Claims.lean ====
section
/-! SUPPORT. The small lemmas of the terms the claims are stated in: agreement on fields, states the host cannot tell apart,
add types by number. -/

namespace Sys2Proof.Machine

open Sys2Proof

theorem sameField_refl (f : Field) (b : Block) : sameField f b b := by cases f <;> simp [sameField]

theorem sameField_trans {f : Field} {b c d : Block} (h : sameField f b c) (h' : sameField f c d) : sameField f b d := by
  cases f <;> simp_all [sameField]

/-- What a byte write at an ELCR port may change. -/
theorem portWrites_elcr (reg : BitVec 1) :
    portWrites (elcrPort reg) = if reg = 0 then [.elcr0] else [.elcr1] := by revert reg; decide

theorem SameToHost.refl (s : State) : SameToHost s s := ⟨rfl, rfl, rfl, rfl, rfl⟩

/-- The same event joins both observations. -/
theorem SameToHost.emit {s s' : State} (h : SameToHost s s') (e : Event) :
    SameToHost (Machine.emit e s) (Machine.emit e s') :=
  ⟨h.blk, h.params, h.pending, h.env, by simp only [Machine.emit, List.filter_append, h.trace]⟩

/-- The same events join both observations. -/
theorem SameToHost.emitAll {s s' : State} (h : SameToHost s s') (es : List Event) :
    SameToHost (Machine.emitAll es s) (Machine.emitAll es s') :=
  ⟨h.blk, h.params, h.pending, h.env, by simp only [Machine.emitAll, List.filter_append, h.trace]⟩

/-- The same result joins both observations. -/
theorem SameToHost.answer {s s' : State} (h : SameToHost s s') (r : Result) :
    SameToHost (Machine.answer r s) (Machine.answer r s') :=
  ⟨h.blk, h.params, h.pending, h.env, by simp only [Machine.answer, List.filter_append, h.trace]⟩

/-- Each number of `classNumbers` is the operand of its class. -/
theorem slotClass_of_number (v : Byte) (c : SlotClass) : classNumbers[v.toNat]? = some c → slotClass v = some c := by
  revert c
  revert v
  decide

/-- Each number of `wiringNumbers` is the operand of its wiring. -/
theorem pinRoute_of_number (v : Byte) (r : PinRoute) : wiringNumbers[v.toNat]? = some r → pinRoute v = some r := by
  revert r
  revert v
  decide

/-- An add type below 0x20 is a device number, from 0x80 the class of its number. -/
theorem addTypeOf_eq (v : Byte) :
    addTypeOf v =
      if h : v.toNat < 32 then some (.device ⟨v.toNat, h⟩)
      else if v.toNat < 0x80 then none
      else (classNumbers[v.toNat - 0x80]?).map .cls := by
  revert v
  decide

/-- What matches by number is what `Matches` of the operand's add type accepts. -/
theorem matchesNumber_iff (v : Byte) (slot : Slot) :
    MatchesNumber v.toNat slot ↔ ∃ a, addTypeOf v = some a ∧ matchesSlot a slot = true := by
  rw [addTypeOf_eq, MatchesNumber]
  by_cases h : v.toNat < 32
  · simp [h, matchesSlot]
    omega
  · by_cases h' : v.toNat < 0x80
    · simp [h, h']
    · cases classNumbers[v.toNat - 128]? <;> simp [h, h', matchesSlot]
      omega

end Sys2Proof.Machine
end

