-- ==== Sys2Proof/Laws/PerInstr.lean ====
section
/-! SUPPORT. One fact per operation: the length its first bytes announce is the length of its request, so the bytes of
one operation never run into the next (30_encoding.md R90, R105). -/

namespace Sys2Proof.Laws.RequestLength

open Sys2Proof

/-- The request of the operation is as long as its format and its first bytes say. -/
def Statement (i : Instr) : Prop := requestLength (encode i).1 (encode i).2 = (encode i).2.length

/-- Every host transaction is three bytes and its data. -/
theorem of_access {i : Instr} {p : Port} {a : Access} (h : encode i = (.iox, encodeAccess p a)) : Statement i := by
  rw [Statement, h]
  cases a <;> simp [requestLength, encodeAccess, transactionBytes, dataCount, dwordBytes]

theorem elcrRd (reg : BitVec 1) : Statement (.elcrRd reg) := of_access rfl

theorem elcrWr (reg : BitVec 1) (val : Byte) : Statement (.elcrWr reg val) := of_access rfl

theorem t1AddrRd : Statement .t1AddrRd := of_access rfl

theorem t1AddrWr (val : Dword) : Statement (.t1AddrWr val) := of_access rfl

theorem t2CseRd : Statement .t2CseRd := of_access rfl

theorem t2CseWr (val : Byte) : Statement (.t2CseWr val) := of_access rfl

theorem trcRd8 : Statement .trcRd8 := of_access rfl

theorem trcRd16 : Statement .trcRd16 := of_access rfl

theorem trcRd32 : Statement .trcRd32 := of_access rfl

theorem trcWr8 (val : Byte) : Statement (.trcWr8 val) := of_access rfl

theorem trcWr16 (val : Word) : Statement (.trcWr16 val) := of_access rfl

theorem trcWr32 (val : Dword) : Statement (.trcWr32 val) := of_access rfl

theorem t2BusRd : Statement .t2BusRd := of_access rfl

theorem t2BusWr (val : Byte) : Statement (.t2BusWr val) := of_access rfl

theorem pmcRd : Statement .pmcRd := of_access rfl

theorem pmcWr (val : Byte) : Statement (.pmcWr val) := of_access rfl

theorem t1DataRd8 (lane : BitVec 2) : Statement (.t1DataRd8 lane) := of_access rfl

theorem t1DataRd16 (lane : BitVec 2) : Statement (.t1DataRd16 lane) := of_access rfl

theorem t1DataRd32 (lane : BitVec 2) : Statement (.t1DataRd32 lane) := of_access rfl

theorem t1DataWr8 (lane : BitVec 2) (val : Byte) : Statement (.t1DataWr8 lane val) := of_access rfl

theorem t1DataWr16 (lane : BitVec 2) (val : Word) : Statement (.t1DataWr16 lane val) := of_access rfl

theorem t1DataWr32 (lane : BitVec 2) (val : Dword) : Statement (.t1DataWr32 lane val) := of_access rfl

theorem t2WinRd8 (dev : BitVec 4) (reg : Byte) : Statement (.t2WinRd8 dev reg) := of_access rfl

theorem t2WinRd16 (dev : BitVec 4) (reg : Byte) : Statement (.t2WinRd16 dev reg) := of_access rfl

theorem t2WinRd32 (dev : BitVec 4) (reg : Byte) : Statement (.t2WinRd32 dev reg) := of_access rfl

theorem t2WinWr8 (dev : BitVec 4) (reg : Byte) (val : Byte) : Statement (.t2WinWr8 dev reg val) := of_access rfl

theorem t2WinWr16 (dev : BitVec 4) (reg : Byte) (val : Word) : Statement (.t2WinWr16 dev reg val) := of_access rfl

theorem t2WinWr32 (dev : BitVec 4) (reg : Byte) (val : Dword) : Statement (.t2WinWr32 dev reg val) := of_access rfl

theorem ioNone (port : Port) (access : Access) : Statement (.ioNone port access) := of_access rfl

theorem init (type : Byte) : Statement (.init type) := rfl

theorem registerSlot (device cls inta intb intc intd : Byte) : Statement (.registerSlot device cls inta intb intc intd) := rfl

theorem addCard (addType : Byte) (h : Handle) : Statement (.addCard addType h) := rfl

theorem setIrqRouting (pciInt irq : Byte) : Statement (.setIrqRouting pciInt irq) := rfl

theorem setIrqLevel (pciInt : Byte) (level : Bool) : Statement (.setIrqLevel pciInt level) := rfl

theorem setIrq (card pin : Byte) : Statement (.setIrq card pin) := rfl

theorem clearIrq (card pin : Byte) : Statement (.clearIrq card pin) := rfl

theorem enableMirq (mirq : Byte) : Statement (.enableMirq mirq) := rfl

theorem setMirqRouting (mirq irq : Byte) : Statement (.setMirqRouting mirq irq) := rfl

theorem setMirq (mirq : Byte) (level : Bool) : Statement (.setMirq mirq level) := rfl

theorem clearMirq (mirq : Byte) (level : Bool) : Statement (.clearMirq mirq level) := rfl

theorem elcrSetEnabled (en : Bool) : Statement (.elcrSetEnabled en) := rfl

theorem reset : Statement .reset := rfl

theorem irqIsLevel (irq : Byte) : Statement (.irqIsLevel irq) := rfl

end Sys2Proof.Laws.RequestLength
end

