-- ==== Sys2Proof/Laws/Ports.lean ====
section
/-! SUPPORT. What a byte transaction, and so any decomposed transaction, can do to the state: a read only calls devices, a
write does one of seven things (30_encoding.md R92). -/

namespace Sys2Proof.Machine

open Sys2Proof

/-- The state after device reads that emitted these events: only the environment's counter and the observation moved. -/
def called (es : List Event) (s : State) : State :=
  { s with env := { s.env with devReads := s.env.devReads + es.length }, trace := s.trace ++ es.map .event }

@[simp] theorem called_nil (s : State) : called [] s = s := by simp [called]

@[simp] theorem called_called (es es' : List Event) (s : State) : called es' (called es s) = called (es ++ es') s := by
  simp [called, Nat.add_assoc]

@[simp] theorem called_blk (es : List Event) (s : State) : (called es s).blk = s.blk := rfl

@[simp] theorem called_params (es : List Event) (s : State) : (called es s).params = s.params := rfl

@[simp] theorem called_pending (es : List Event) (s : State) : (called es s).pending = s.pending := rfl

/-- A device read is the state after its one event. -/
theorem devRead_eq_called (h : Handle) (func : BitVec 3) (addr : Byte) (s : State) :
    (devRead h func addr s).2 = called [.devReadCall h func addr] s := rfl

/-- At most `n` device reads lead from `s` to `s'`, and nothing else. -/
def OnlyCalls (n : Nat) (s s' : State) : Prop :=
  ∃ es : List Event, es.length ≤ n ∧ (∀ e ∈ es, e.kind = .devReadCall) ∧ s' = called es s

theorem OnlyCalls.refl (n : Nat) (s : State) : OnlyCalls n s s := ⟨[], by simp, by simp, by simp⟩

theorem OnlyCalls.trans {m n : Nat} {s s' s'' : State} (h : OnlyCalls m s s') (h' : OnlyCalls n s' s'') :
    OnlyCalls (m + n) s s'' := by
  obtain ⟨es, hl, hk, rfl⟩ := h
  obtain ⟨es', hl', hk', rfl⟩ := h'
  refine ⟨es ++ es', by simp; omega, ?_, by simp⟩
  intro e he
  rcases List.mem_append.1 he with he | he
  exacts [hk e he, hk' e he]

theorem OnlyCalls.blk {n : Nat} {s s' : State} (h : OnlyCalls n s s') : s'.blk = s.blk := by
  obtain ⟨es, -, -, rfl⟩ := h
  rfl

/-- A configuration read is at most one device read. -/
theorem cfgRead8_calls (dev : BitVec 5) (func : BitVec 3) (addr : Byte) (s : State) :
    OnlyCalls 1 s (cfgRead8 dev func addr s).2 := by
  rcases cfgRead8_state dev func addr s with h | ⟨hd, h⟩ <;> rw [h]
  · exact .refl 1 s
  · exact ⟨[_], by simp, by simp [Event.kind], devRead_eq_called hd func addr s⟩

/-- The read of a byte register is at most one device read. -/
theorem readByte_calls (r : ByteReg) (s : State) : OnlyCalls 1 s (readByte r s).2 := by
  unfold readByte
  split
  · cases r with
    | elcr reg => exact .refl 1 s
    | cse => exact .refl 1 s
    | trc => exact .refl 1 s
    | bus => exact .refl 1 s
    | pmc => exact .refl 1 s
    | configData lane =>
      simp only [readReg, readConfigData]
      split
      · exact cfgRead8_calls _ _ _ s
      · exact .refl 1 s
    | window dev reg =>
      simp only [readReg, readWindow]
      split
      · exact cfgRead8_calls _ _ _ s
      · exact .refl 1 s
  · exact .refl 1 s

/-- A byte read at a port is at most one device read. -/
theorem ioRead8_calls (p : Port) (s : State) : OnlyCalls 1 s (ioRead8 p s).2 := by
  unfold ioRead8
  split
  · exact readByte_calls _ s
  · exact .refl 1 s

/-- The state a two-lane read leaves is the second lane's. -/
theorem readLanes16_state (p : Port) (s : State) :
    (readLanes16 p s).2 = (ioRead8 (p + 1) (ioRead8 p s).2).2 := rfl

/-- The state a four-lane read leaves is the upper half's. -/
theorem readLanes32_state (p : Port) (s : State) :
    (readLanes32 p s).2 = (readLanes16 (p + 2) (readLanes16 p s).2).2 := rfl

/-- A two-lane read is at most two device reads. -/
theorem readLanes16_calls (p : Port) (s : State) : OnlyCalls 2 s (readLanes16 p s).2 := by
  rw [readLanes16_state]
  exact (ioRead8_calls p s).trans (ioRead8_calls (p + 1) (ioRead8 p s).2)

/-- A four-lane read is at most four device reads. -/
theorem readLanes32_calls (p : Port) (s : State) : OnlyCalls 4 s (readLanes32 p s).2 := by
  rw [readLanes32_state]
  exact (readLanes16_calls p s).trans (readLanes16_calls (p + 2) (readLanes16 p s).2)

/-- Everything a byte write of TRC can do (43_elcr_trc.md R247): store only, reset the CPU, or run the cascade first. -/
theorem writeTrc_cases (v : Byte) (s : State) :
    (trcFires v s.blk = false ∧ writeTrc v s = withBlock { s.blk with trc := trcStored v } s) ∨
    (trcFires v s.blk = true ∧ (v.getLsbD 1 || s.params.trcSoftResetCascades) = false ∧
      writeTrc v s = withBlock { s.blk with trc := trcStored v } (emit (.strobe .cpuReset) s)) ∨
    (trcFires v s.blk = true ∧ (v.getLsbD 1 || s.params.trcSoftResetCascades) = true ∧
      writeTrc v s =
        withBlock { (subsystemReset s).blk with trc := trcStored v } (emit (.strobe .cpuReset) (cascade s))) := by
  cases hf : trcFires v s.blk
  · exact .inl ⟨rfl, by rw [writeTrc, hf]; rfl⟩
  · cases hc : (v.getLsbD 1 || s.params.trcSoftResetCascades)
    · exact .inr (.inl ⟨rfl, rfl, by rw [writeTrc, hf, trcReset, hc]; rfl⟩)
    · exact .inr (.inr ⟨rfl, rfl, by rw [writeTrc, hf, trcReset, hc]; rfl⟩)

/-- Everything the write of a byte register can do (30_encoding.md R92). -/
inductive ByteWrite (v : Byte) (s : State) : State → Prop where
  | nothing : ByteWrite v s s
  | elcr (reg : BitVec 1) : ByteWrite v s (withBlock (writeElcr reg v s.blk) s)
  | cse (h : t2Ports s.blk = true) : ByteWrite v s (withBlock (writeCse v s.blk) s)
  | trc (h : s.blk.initialised = true) : ByteWrite v s (writeTrc v s)
  | bus (h : t2Ports s.blk = true) : ByteWrite v s (withBlock { s.blk with t2Bus := v } s)
  | pmc (h : pmcPresent s.blk = true) : ByteWrite v s (withBlock (writePmc v s.blk) s)
  | device (h : Handle) (func : BitVec 3) (addr : Byte) : ByteWrite v s (emit (.devWrite h func addr v) s)

/-- A configuration write does nothing or calls a device. -/
theorem cfgWrite8_does (dev : BitVec 5) (func : BitVec 3) (addr v : Byte) (s : State) :
    ByteWrite v s (cfgWrite8 dev func addr v s) := by
  rcases cfgWrite8_state dev func addr v s with h | ⟨hd, h⟩ <;> rw [h]
  · exact .nothing
  · exact .device hd func addr

/-- The write of a byte register does one of seven things. -/
theorem writeByte_does (r : ByteReg) (v : Byte) (s : State) : ByteWrite v s (writeByte r v s) := by
  unfold writeByte
  split
  · rename_i hp
    cases r with
    | elcr reg => exact .elcr reg
    | cse => exact .cse hp
    | trc => exact .trc hp
    | bus => exact .bus hp
    | pmc => exact .pmc hp
    | configData lane =>
      simp only [writeReg, writeConfigData]
      split
      · exact cfgWrite8_does _ _ _ v s
      · exact .nothing
    | window dev reg =>
      simp only [writeReg, writeWindow]
      split
      · exact cfgWrite8_does _ _ _ v s
      · exact .nothing
  · exact .nothing

/-- A byte write at a port does one of seven things. -/
theorem ioWrite8_does (p : Port) (v : Byte) (s : State) : ByteWrite v s (ioWrite8 p v s) := by
  unfold ioWrite8
  split
  · exact writeByte_does _ v s
  · exact .nothing

/-- What every byte write keeps, a two-lane write keeps. -/
theorem writeLanes16_keeps {P : State → Prop} (keeps : ∀ p v s, P s → P (ioWrite8 p v s)) (p : Port) (v : Word)
    (s : State) (h : P s) : P (writeLanes16 p v s) :=
  keeps _ _ _ (keeps _ _ _ h)

/-- What every byte write keeps, a four-lane write keeps. -/
theorem writeLanes32_keeps {P : State → Prop} (keeps : ∀ p v s, P s → P (ioWrite8 p v s)) (p : Port) (v : Dword)
    (s : State) (h : P s) : P (writeLanes32 p v s) :=
  writeLanes16_keeps keeps _ _ _ (writeLanes16_keeps keeps _ _ _ h)

/-- A CONFIG_DATA port is a CONFIG_DATA register (30_encoding.md R96). -/
@[simp] theorem byteReg_configDataPort (lane : BitVec 2) : byteReg (configDataPort lane) = some (.configData lane) := by
  revert lane; decide

/-- An ELCR port is an ELCR register (30_encoding.md R101). -/
@[simp] theorem byteReg_elcrPort (reg : BitVec 1) : byteReg (elcrPort reg) = some (.elcr reg) := by
  revert reg; decide

/-- A window port is the window register of its device and register (30_encoding.md R100). -/
@[simp] theorem byteReg_windowPort (dev : BitVec 4) (reg : Byte) :
    byteReg (windowPort dev reg) = some (.window dev reg) := by
  have h12 : (windowPort dev reg).extractLsb' 12 4 = 0xC := by
    apply BitVec.eq_of_getLsbD_eq
    intro i hi
    rw [BitVec.getLsbD_extractLsb', windowPort, BitVec.getLsbD_append, BitVec.getLsbD_append]
    simp [hi, show ¬ 12 + i < 8 by omega, show ¬ 12 + i - 8 < 4 by omega, show 12 + i - 8 - 4 = i by omega]
  have h8 : (windowPort dev reg).extractLsb' 8 4 = dev := by
    apply BitVec.eq_of_getLsbD_eq
    intro i hi
    rw [BitVec.getLsbD_extractLsb', windowPort, BitVec.getLsbD_append, BitVec.getLsbD_append]
    simp [hi]
  have h0 : (windowPort dev reg).extractLsb' 0 8 = reg := by
    apply BitVec.eq_of_getLsbD_eq
    intro i hi
    rw [BitVec.getLsbD_extractLsb', windowPort, BitVec.getLsbD_append]
    simp [hi]
  rw [byteReg, if_pos h12, h8, h0]

end Sys2Proof.Machine
end

