-- ==== Sys2Proof/Tests/Slice0.lean ====
section
/-! SUPPORT. Tests: the well-formedness check, words written out from 30_encoding.md, vectors of 95_test_vectors.md (each
test names its vector), and for every statement with hypotheses a state and operands that meet them. -/

namespace Sys2Proof.Tests

open Sys2Proof Sys2Proof.Machine

/-! ## Small states -/

/-- A state with this block. -/
def on (b : Block) : State := { State.reset with blk := b }

/-- A state with this block whose devices answer these bytes in turn. -/
def answering (b : Block) (bytes : List Byte) : State :=
  { on b with env := { devScript := bytes, devReads := 0, ltimScript := [], ltimReads := 0 } }

/-- Setup M1+h1 of 95_test_vectors.md (h1 is 7) with the routing of its family F. -/
def wired : Block :=
  { initialBlock Params.default .t1 false with
    slots :=
      ((((((Vector.replicate 32 Slot.empty).set 0 ⟨0, some .northbridge, #v[.disabled, .disabled, .disabled, .disabled], none⟩).set
        1 ⟨7, some .southbridge, #v[.disabled, .disabled, .disabled, .disabled], none⟩).set
        2 ⟨8, some .normal, #v[.inta, .intb, .intc, .intd], some 7⟩).set
        3 ⟨9, some .normal, #v[.intb, .intc, .intd, .inta], none⟩).set
        4 ⟨10, some .normal, #v[.intc, .intd, .inta, .intb], none⟩).set
        5 ⟨11, some .normal, #v[.intd, .inta, .intb, .intc], none⟩
    nslots := 6
    dev2slot :=
      ((((((Vector.replicate 32 none).set 0 (some 0)).set 7 (some 1)).set 8 (some 2)).set 9 (some 3)).set 10
        (some 4)).set 11 (some 5)
    irqRoute := #v[⟨10, true⟩, ⟨11, false⟩, ⟨0xFF, true⟩, ⟨5, true⟩] }

/-- `wired` with a Type 1 latch. -/
def latched (bus : Byte) (dev : BitVec 5) (reg : Byte) (enable : Bool) : Block :=
  { wired with caBus := bus, caDev := dev, caReg := reg, caEn := enable }

/-- `wired` as a Type 2 machine with a key, function 0, and a bus number. -/
def type2 (key : BitVec 4) (bus : Byte) : Block := { wired with mech := .t2, t2Key := key, t2Bus := bus }

/-- A Type 2 machine with the window open and cards 1 and 2 bound at device numbers 14 and 15. -/
def pair : Block :=
  { initialBlock Params.default .t2 false with
    slots :=
      ((Vector.replicate 32 Slot.empty).set 0 ⟨14, some .normal, #v[.inta, .intb, .intc, .intd], some 1⟩).set
        1 ⟨15, some .normal, #v[.inta, .intb, .intc, .intd], some 2⟩
    nslots := 2
    dev2slot := ((Vector.replicate 32 none).set 14 (some 0)).set 15 (some 1)
    t2Key := 1 }

/-- `wired` with the hold mask of line 10. -/
def holding (m : HoldMask) : Block := { wired with hold := wired.hold.set 10 m }

/-- `wired` without steering. -/
def unsteered : Block := { wired with noSteer := true }

/-- `wired` with mirror IRQ 2 enabled on line 15, whose hold mask is `m`. -/
def mirrored (m : HoldMask) : Block :=
  { wired with mirq := wired.mirq.set 2 ⟨true, 15⟩, hold := wired.hold.set 15 m }

/-- What one operation does: its events. -/
def events (i : Instr) (s : State) : Option (List Event) :=
  match exec i s with
  | .next t => some (eventsSince s.trace.length t)
  | .fault _ => none
  | .refused _ => none

/-- What one operation does: a view of the block it leaves. -/
def leaves {α : Type} (view : Block → α) (i : Instr) (s : State) : Option α :=
  match exec i s with
  | .next t => some (view t.blk)
  | .fault _ => none
  | .refused _ => none

/-- What one operation does: its result. -/
def gives (i : Instr) (s : State) : Option Result := resultOf (exec i s)

/-! ## Well-formedness -/

/-- Each port class has an `IO.NONE` that is not one: byte, word and dword rows exist there. -/
theorem test_wellFormed_refuses :
    (Instr.ioNone 0x04D0 .rd8).wellFormed = false ∧ (Instr.ioNone 0x04D1 (.wr8 0)).wellFormed = false ∧
    (Instr.ioNone 0x0CF8 .rd8).wellFormed = false ∧ (Instr.ioNone 0x0CFB (.wr8 0)).wellFormed = false ∧
    (Instr.ioNone 0x0CF9 .rd16).wellFormed = false ∧ (Instr.ioNone 0x0CFF (.wr16 0)).wellFormed = false ∧
    (Instr.ioNone 0xC000 .rd16).wellFormed = false ∧ (Instr.ioNone 0x0CF8 .rd32).wellFormed = false ∧
    (Instr.ioNone 0xCFFF (.wr32 0)).wellFormed = false := by decide

/-- `IO.NONE` where no row stands: the ports around the claimed ones, and widths no row names. -/
theorem test_wellFormed_accepts :
    (Instr.ioNone 0x04CF .rd8).wellFormed = true ∧ (Instr.ioNone 0x04D2 (.wr8 0)).wellFormed = true ∧
    (Instr.ioNone 0x0CF7 .rd32).wellFormed = true ∧ (Instr.ioNone 0x0D00 .rd8).wellFormed = true ∧
    (Instr.ioNone 0xBFFF .rd16).wellFormed = true ∧ (Instr.ioNone 0xD000 (.wr32 0)).wellFormed = true ∧
    (Instr.ioNone 0x04D0 .rd16).wellFormed = true ∧ (Instr.ioNone 0x0CF8 (.wr16 0)).wellFormed = true ∧
    (Instr.ioNone 0x0CFA .rd32).wellFormed = true := by decide

/-! ## Words written out from 30_encoding.md sections 1 and 4 -/

/-- tw 0x004D1, 0x404D0. -/
theorem test_decode_elcr :
    decode .iox [0xD1, 0x04, 0x00] = .instr (.elcrRd 1) ∧
    decode .iox [0xD0, 0x04, 0x04, 0xA5] = .instr (.elcrWr 0 0xA5) := by decide

/-- tw 0x20CF8, 0x60CF8; data least significant byte first. -/
theorem test_decode_configAddress :
    decode .iox [0xF8, 0x0C, 0x02] = .instr .t1AddrRd ∧
    decode .iox [0xF8, 0x0C, 0x06, 0x3C, 0x4B, 0x00, 0x80] = .instr (.t1AddrWr 0x80004B3C) := by decide

/-- tw 0x00CF8, 0x40CF8, 0x00CFA, 0x40CFA, 0x00CFB, 0x40CFB. -/
theorem test_decode_type2Registers :
    decode .iox [0xF8, 0x0C, 0x00] = .instr .t2CseRd ∧
    decode .iox [0xF8, 0x0C, 0x04, 0x34] = .instr (.t2CseWr 0x34) ∧
    decode .iox [0xFA, 0x0C, 0x00] = .instr .t2BusRd ∧
    decode .iox [0xFA, 0x0C, 0x04, 0x01] = .instr (.t2BusWr 1) ∧
    decode .iox [0xFB, 0x0C, 0x00] = .instr .pmcRd ∧
    decode .iox [0xFB, 0x0C, 0x04, 0x01] = .instr (.pmcWr 1) := by decide

/-- tw 0x00CF9, 0x10CF9, 0x20CF9, 0x40CF9, 0x50CF9, 0x60CF9. -/
theorem test_decode_trc :
    decode .iox [0xF9, 0x0C, 0x00] = .instr .trcRd8 ∧
    decode .iox [0xF9, 0x0C, 0x01] = .instr .trcRd16 ∧
    decode .iox [0xF9, 0x0C, 0x02] = .instr .trcRd32 ∧
    decode .iox [0xF9, 0x0C, 0x04, 0x06] = .instr (.trcWr8 6) ∧
    decode .iox [0xF9, 0x0C, 0x05, 0x06, 0x00] = .instr (.trcWr16 6) ∧
    decode .iox [0xF9, 0x0C, 0x06, 0x06, 0x00, 0x00, 0x00] = .instr (.trcWr32 6) := by decide

/-- tw 0x00CFE, 0x10CFF, 0x20CFC, 0x40CFD, 0x50CFE, 0x60CFC. -/
theorem test_decode_configData :
    decode .iox [0xFE, 0x0C, 0x00] = .instr (.t1DataRd8 2) ∧
    decode .iox [0xFF, 0x0C, 0x01] = .instr (.t1DataRd16 3) ∧
    decode .iox [0xFC, 0x0C, 0x02] = .instr (.t1DataRd32 0) ∧
    decode .iox [0xFD, 0x0C, 0x04, 0x5A] = .instr (.t1DataWr8 1 0x5A) ∧
    decode .iox [0xFE, 0x0C, 0x05, 0x34, 0x12] = .instr (.t1DataWr16 2 0x1234) ∧
    decode .iox [0xFC, 0x0C, 0x06, 0x78, 0x56, 0x34, 0x12] = .instr (.t1DataWr32 0 0x12345678) := by decide

/-- tw 0x0C83C, 0x1C8FF, 0x2C800, 0x4C004, 0x5CF10, 0x6C900. -/
theorem test_decode_window :
    decode .iox [0x3C, 0xC8, 0x00] = .instr (.t2WinRd8 8 0x3C) ∧
    decode .iox [0xFF, 0xC8, 0x01] = .instr (.t2WinRd16 8 0xFF) ∧
    decode .iox [0x00, 0xC8, 0x02] = .instr (.t2WinRd32 8 0) ∧
    decode .iox [0x04, 0xC0, 0x04, 0x06] = .instr (.t2WinWr8 0 4 6) ∧
    decode .iox [0x10, 0xCF, 0x05, 0x34, 0x12] = .instr (.t2WinWr16 15 0x10 0x1234) ∧
    decode .iox [0x00, 0xC9, 0x06, 0x78, 0x56, 0x34, 0x12] = .instr (.t2WinWr32 9 0 0x12345678) := by decide

/-- tw 0x00D00, 0x104D0, 0x40080, 0x6FFFF: no row but `IO.NONE`. -/
theorem test_decode_ioNone :
    decode .iox [0x00, 0x0D, 0x00] = .instr (.ioNone 0x0D00 .rd8) ∧
    decode .iox [0xD0, 0x04, 0x01] = .instr (.ioNone 0x04D0 .rd16) ∧
    decode .iox [0x80, 0x00, 0x04, 0x11] = .instr (.ioNone 0x0080 (.wr8 0x11)) ∧
    decode .iox [0xFF, 0xFF, 0x06, 0x04, 0x03, 0x02, 0x01] = .instr (.ioNone 0xFFFF (.wr32 0x01020304)) := by decide

/-- Command codes 0x01-0x07. -/
theorem test_decode_setup :
    decode .cmd [0x01, 0x81] = .instr (.init 0x81) ∧
    decode .cmd [0x02, 8, 0, 1, 2, 3, 4] = .instr (.registerSlot 8 0 1 2 3 4) ∧
    decode .cmd [0x03, 0x80, 0x78, 0x56, 0x34, 0x12] = .instr (.addCard 0x80 0x12345678) ∧
    decode .cmd [0x04, 1, 10] = .instr (.setIrqRouting 1 10) ∧
    decode .cmd [0x05, 1, 1] = .instr (.setIrqLevel 1 true) ∧
    decode .cmd [0x06, 8, 1] = .instr (.setIrq 8 1) ∧
    decode .cmd [0x07, 8, 2] = .instr (.clearIrq 8 2) := by decide

/-- Command codes 0x08-0x0E. -/
theorem test_decode_router :
    decode .cmd [0x08, 0] = .instr (.enableMirq 0) ∧
    decode .cmd [0x09, 0, 0x0E] = .instr (.setMirqRouting 0 14) ∧
    decode .cmd [0x0A, 0, 1] = .instr (.setMirq 0 true) ∧
    decode .cmd [0x0B, 0, 0] = .instr (.clearMirq 0 false) ∧
    decode .cmd [0x0C, 1] = .instr (.elcrSetEnabled true) ∧
    decode .cmd [0x0D] = .instr .reset ∧
    decode .cmd [0x0E, 13] = .instr (.irqIsLevel 13) := by decide

/-- Size code 3, a bit above bit 18, missing data, an unknown code, a 1-bit operand of 2. -/
theorem test_decode_rejects :
    decode .iox [0xF8, 0x0C, 0x03] = .error .noSuchSize ∧ decode .iox [0xF8, 0x0C, 0x08] = .error .strayBits ∧
    decode .iox [0xF8, 0x0C, 0x06, 0x00] = .error .wrongLength ∧ decode .cmd [0x0F] = .error .unknownCommand ∧
    decode .cmd [0x0C, 2] = .error .operandNotABit := by decide

/-- The opcode table's numbering reaches the same operations. -/
theorem test_decodeTableWord :
    decodeTableWord 19 0x60CF8 = some (.t1AddrWr 0) ∧ decodeTableWord 19 0x0C83C = some (.t2WinRd8 8 0x3C) ∧
    decodeTableWord 8 0x0D = some .reset ∧ decodeTableWord 8 0x02 = some (.registerSlot 0 0 0 0 0 0) := by decide

/-! ## Vectors of 95_test_vectors.md -/

/-- A2. -/
theorem test_A2_write :
    leaves (fun b => (b.caEn, b.caBus, b.caDev, b.caFunc, b.caReg)) (.t1AddrWr 0x80004B3C) (on wired) =
      some (true, 0, 9, 3, 0x3C) := by decide

/-- A3. -/
theorem test_A3_read :
    gives .t1AddrRd (on { wired with caEn := true, caBus := 0xFF, caDev := 31, caFunc := 7, caReg := 0xFF }) =
      some (.val32 0x80FFFFFF) := by decide

/-- B15. -/
theorem test_B15_wideWriteBySideEffects :
    leaves (fun b => (b.trc, b.t2Key, b.pmc)) (.t1AddrWr 0x80004000) (on (type2 1 0)) = some (0x40, 0, false) ∧
    events (.t1AddrWr 0x80004000) (on (type2 1 0)) = some [] := by decide

/-- B14. -/
theorem test_B14_wideReadOfRegisters : gives .t1AddrRd (on (type2 1 0)) = some (.val32 0x00000010) := by decide

/-- A6. -/
theorem test_A6_indexIsAnOr :
    events (.t1DataRd8 2) (answering (latched 0 8 0x41 true) [0x99]) = some [.devReadCall 7 0 0x43] ∧
    gives (.t1DataRd8 2) (answering (latched 0 8 0x41 true) [0x99]) = some (.val8 0x99) := by decide

/-- A7. -/
theorem test_A7_laneOrder :
    gives (.t1DataRd32 0) (answering (latched 0 8 0x42 true) [0xAA, 0xBB, 0xAA, 0xBB]) = some (.val32 0xBBAABBAA) ∧
    events (.t1DataRd32 0) (answering (latched 0 8 0x42 true) [0xAA, 0xBB, 0xAA, 0xBB]) =
      some [.devReadCall 7 0 0x42, .devReadCall 7 0 0x43, .devReadCall 7 0 0x42, .devReadCall 7 0 0x43] := by decide

/-- A10. -/
theorem test_A10_laneOutside :
    gives (.t1DataRd16 3) (answering (latched 0 8 0x04 true) [0x12]) = some (.val16 0xFF12) := by decide

/-- A9. -/
theorem test_A9_wordWrite :
    events (.t1DataWr16 2 0x1234) (on (latched 0 8 0x04 true)) =
      some [.devWrite 7 0 0x06 0x34, .devWrite 7 0 0x07 0x12] := by decide

/-- A11, A5, A13: another bus, disabled, unbound. -/
theorem test_A11_notPresent :
    events (.t1DataWr32 0 0) (on (latched 1 8 0 true)) = some [] ∧
    events (.t1DataWr8 0 0x55) (on (latched 0 8 0 false)) = some [] ∧
    gives (.t1DataRd8 0) (on (latched 0 0 0 true)) = some (.val8 0xFF) := by decide

/-- A14: a byte access to 0x0CF8 on a Type 1 machine. -/
theorem test_A14_cseAbsent :
    gives .t2CseRd (on (latched 0 8 0 true)) = some (.val8 0xFF) ∧
    leaves (fun b => (b.t2Key, b.caDev)) (.t2CseWr 0x12) (on (latched 0 8 0 true)) = some (0, 8) := by decide

/-- A15. -/
theorem test_A15_wordAt0CF8 : gives (.ioNone 0x0CF8 .rd16) (on wired) = some (.val16 0x00FF) := by decide

/-- B16. -/
theorem test_B16_straddlingWrite :
    leaves (fun b => (b.t2Key, b.trc)) (.ioNone 0x0CF8 (.wr16 0x0410)) (on (type2 0 0)) = some (1, 0x04) ∧
    events (.ioNone 0x0CF8 (.wr16 0x0410)) (on (type2 0 0)) = some [.strobe .cpuReset] := by decide

/-- B5. -/
theorem test_B5_cse :
    leaves (fun b => (b.t2Key, b.t2Func)) (.t2CseWr 0xF3) (on (type2 0 0)) = some (0xF, 1) ∧
    gives .t2CseRd (on { type2 0xF 0 with t2Func := 1 }) = some (.val8 0xF2) := by decide

/-- B9. -/
theorem test_B9_bus :
    leaves (·.t2Bus) (.t2BusWr 1) (on (type2 1 0)) = some 1 ∧ gives .t2BusRd (on (type2 1 1)) = some (.val8 1) ∧
    gives (.t2WinRd8 8 0) (on (type2 1 1)) = some (.val8 0xFF) ∧
    events (.t2WinWr8 8 4 7) (on (type2 1 1)) = some [] := by decide

/-- B3, B6. -/
theorem test_B3_window :
    events (.t2WinRd8 8 0x3C) (answering (type2 1 0) [0x0B]) = some [.devReadCall 7 0 0x3C] ∧
    gives (.t2WinRd8 8 0) (on (type2 0 0)) = some (.val8 0xFF) := by decide

/-- B7. -/
theorem test_B7_crossing : gives (.t2WinRd16 8 0xFF) (answering (type2 1 0) [0x5A]) = some (.val16 0xFF5A) := by decide

/-- B8. -/
theorem test_B8_dword :
    gives (.t2WinRd32 8 0) (answering (type2 1 0) [0x86, 0x80, 0x37, 0x12]) = some (.val32 0x12378086) := by decide

/-- R147: lanes ascending, the last in the next device. -/
theorem test_windowWideWrites :
    events (.t2WinWr16 14 0xFF 0x1234) (on pair) = some [.devWrite 1 0 0xFF 0x34, .devWrite 2 0 0x00 0x12] ∧
    events (.t2WinWr32 15 0xFE 0x12345678) (on pair) = some [.devWrite 2 0 0xFE 0x78, .devWrite 2 0 0xFF 0x56] := by
  decide

/-- C1, C5. -/
theorem test_C1_pmc :
    leaves (fun b => (b.pmc, b.t2Key, b.t2Func)) (.pmcWr 1) (on { type2 3 0 with t2Func := 2 }) = some (true, 0, 0) ∧
    leaves (fun b => (b.pmc, b.t2Key)) (.pmcWr 0xFE) (on (type2 1 0)) = some (false, 0) := by decide

/-- C6. -/
theorem test_C6_pmcAbsent : gives .pmcRd (on wired) = some (.val8 0xFF) := by decide

/-- C7: the second lane is decoded after the first switched the ports. -/
theorem test_C7_laneAfterSwitch :
    leaves (·.pmc) (.ioNone 0x0CFB (.wr16 0xAA01)) (on (type2 0 0)) = some true ∧
    events (.ioNone 0x0CFB (.wr16 0xAA01)) (on (type2 0 0)) = some [] := by decide

/-- D10. -/
theorem test_D10_init :
    leaves (fun b => (b.initialised, b.mech, b.noSteer)) (.init 0x81) State.reset = some (true, .t1, true) ∧
    leaves (fun b => (b.mech, b.noSteer)) (.init 0x02) (on unsteered) = some (.t2, false) := by decide

/-- D9. -/
theorem test_D9_initRefused : leaves (·.initialised) (.init 0x03) State.reset = some false := by decide

/-- D7: a device number registered again. -/
theorem test_D7_registerAgain :
    leaves (fun b => (b.nslots, b.dev2slot[8], b.slots[6].cls)) (.registerSlot 8 1 1 2 3 4) (on wired) =
      some (7, some 6, some .video) := by decide

/-- D12. -/
theorem test_D12_registerRefused :
    leaves (·.nslots) (.registerSlot 32 0 1 2 3 4) (on wired) = some 6 ∧
    leaves (·.nslots) (.registerSlot 12 0 5 0 0 0) (on wired) = some 6 := by decide

/-- D4: by number, then the first free NORMAL slot (slot[2] is bound already). -/
theorem test_D4_addCard :
    gives (.addCard 0x09 1) (on wired) = some (.val8 9) ∧ gives (.addCard 0x80 1) (on wired) = some (.val8 9) ∧
    leaves (fun b => b.slots[3].dev) (.addCard 0x80 1) (on wired) = some (some 1) := by decide

/-- D5, D11. -/
theorem test_D5_addCardFails :
    gives (.addCard 0x08 1) (on wired) = some (.val8 0xFF) ∧ gives (.addCard 0x87 1) (on wired) = some (.val8 0xFF) := by
  decide

/-- E1, E2. -/
theorem test_E1_elcr :
    leaves (·.elcr0) (.elcrWr 0 0xFF) (on wired) = some 0xF8 ∧ leaves (·.elcr1) (.elcrWr 1 0xFF) (on wired) = some 0xDE ∧
    gives (.elcrRd 1) (on { wired with elcr1 := 0xDE }) = some (.val8 0xDE) := by decide

/-- E4. -/
theorem test_E4_elcrWide :
    gives (.ioNone 0x04D0 .rd32) (on { wired with elcr0 := 0xF8, elcr1 := 0xDE }) = some (.val32 0xFFFFDEF8) := by decide

/-- E6. -/
theorem test_E6_fullReset :
    events (.trcWr8 0x06) (on wired) =
      some [.strobe .dmaReset, .strobe .deviceResetAll, .strobe .cpuAltResetClear, .strobe .kbcReset, .strobe .a20Reset,
        .strobe .mmuFlush, .strobe .cpuReset] ∧
    leaves (·.trc) (.trcWr8 0x06) (on wired) = some 0x02 := by decide

/-- E5, E6d. -/
theorem test_E5_softReset :
    events (.trcWr8 0x04) (on wired) = some [.strobe .cpuReset] ∧
    leaves (·.trc) (.trcWr8 0xFF) (on wired) = some 0xFB ∧
    gives .trcRd8 (on { wired with trc := 0x04 }) = some (.val8 0x00) := by decide

/-- E8. -/
theorem test_E8_trcWide :
    gives .trcRd16 (on wired) = some (.val16 0xFFFF) ∧ gives .trcRd32 (on wired) = some (.val32 0xFFFFFFFF) ∧
    events (.trcWr16 0x0006) (on wired) = some [] ∧ leaves (·.trc) (.trcWr32 0x00000006) (on wired) = some 0 := by decide

/-- E12. -/
theorem test_E12_reset :
    events .reset (on { holding 0x300 with hold := (holding 0x300).hold.set 15 0x100000000 }) =
      some [.picClear 10, .picClear 15] ∧
    leaves (fun b => (b.hold[10], b.elcr0, b.nslots)) .reset (on { holding 0x300 with elcr0 := 0xF8 }) =
      some (0, 0, 6) := by decide

/-- E9, E10. -/
theorem test_E9_irqIsLevel :
    gives (.irqIsLevel 14) (on { wired with elcrEn := true, elcr1 := 0xDE }) = some (.bit true) ∧
    gives (.irqIsLevel 13) (on { wired with elcrEn := true, elcr1 := 0xFF }) = some (.bit false) ∧
    gives (.irqIsLevel 3) { on wired with env := { devScript := [], devReads := 0, ltimScript := [true], ltimReads := 0 } } =
      some (.bit true) := by decide

/-- E9's operation. -/
theorem test_elcrSetEnabled : leaves (·.elcrEn) (.elcrSetEnabled true) (on wired) = some true := by decide

/-- F1, F3. -/
theorem test_F1_assert :
    events (.setIrq 8 1) (on wired) = some [.picLevel 10] ∧
    leaves (·.hold[10]) (.setIrq 9 4) (on (holding 0x100)) = some 0x300 ∧
    events (.setIrq 9 4) (on (holding 0x100)) = some [] := by decide

/-- F17: without steering the card is asked. -/
theorem test_F17_noSteer :
    events (.setIrq 8 1) (answering unsteered [0x0B]) = some [.devReadCall 7 0 0x3C, .picEdge 11] := by decide

/-- F4, F9. -/
theorem test_F4_clear :
    leaves (·.hold[10]) (.clearIrq 8 1) (on (holding 0x700)) = some 0x600 ∧
    events (.clearIrq 10 3) (on (holding 0x400)) = some [.picClear 10] ∧
    events (.clearIrq 9 4) (on (holding 0x100)) = some [] := by decide

/-- F14, F15. -/
theorem test_F14_routing :
    leaves (·.irqRoute[0]) (.setIrqRouting 1 16) (on wired) = some ⟨16, true⟩ ∧
    leaves (·.irqRoute[3]) (.setIrqLevel 4 false) (on wired) = some ⟨5, false⟩ ∧
    leaves (·.irqRoute) (.setIrqRouting 5 10) (on wired) = some wired.irqRoute := by decide

/-- G1, G6. -/
theorem test_G1_mirrorSetup :
    leaves (·.mirq[0]) (.enableMirq 0) (on wired) = some ⟨true, 0xFF⟩ ∧
    leaves (·.mirq[0]) (.setMirqRouting 0 14) (on wired) = some ⟨false, 14⟩ ∧
    leaves (·.mirq) (.enableMirq 3) (on wired) = some wired.mirq := by decide

/-- G2. -/
theorem test_G2_mirrorAssert :
    events (.setMirq 2 true) (on (mirrored 0)) = some [.picLevel 15] ∧
    leaves (·.hold[15]) (.setMirq 2 true) (on (mirrored 0)) = some 0x100000000 := by decide

/-- G4, G7: the 64-bit complement keeps the other holder; an edge clear always clears. -/
theorem test_G4_mirrorClear :
    leaves (·.hold[15]) (.clearMirq 2 true) (on (mirrored 0x100000800)) = some 0x800 ∧
    events (.clearMirq 2 false) (on (mirrored 0)) = some [.picClear 15] := by decide

/-! ## Steps -/

/-- The word of `RESET` placed for the next step is taken and run. -/
theorem test_withFetchWord :
    step ((on (holding 0x300)).withFetchWord 8 0x0D) = exec .reset (on (holding 0x300)) := rfl

/-- A request with size code 3 gets no meaning. -/
theorem test_stepRefuses :
    step { State.reset with pending := [⟨.iox, [0xF8, 0x0C, 0x03]⟩] } = .refused (.notAnOperation .noSuchSize) := rfl

/-! ## Witnesses of the statements' hypotheses -/

/-- EncodeThenDecode. -/
theorem test_witness_EncodeThenDecode : (Instr.ioNone 0xFFFF .rd32).wellFormed = true := by decide

/-- DecodeThenEncode. -/
theorem test_witness_DecodeThenEncode : decode .iox [0x00, 0xC0, 0x04, 0xFF] = .instr (.t2WinWr8 0 0 0xFF) := by decide

/-- StepRunsTheDecodedOperation. -/
theorem test_witness_StepRunsTheDecodedOperation :
    ({ State.reset with pending := [⟨.cmd, [0x0D]⟩] } : State).pending = ⟨.cmd, [0x0D]⟩ :: [] ∧
    decode .cmd [0x0D] = .instr .reset ∧ Instr.reset.wellFormed = true := by decide

/-- StepRefusesExactlyNonOperations: the three errors that are no operation; an operand that is not a bit is refused as an
operation (log 5). -/
theorem test_witness_StepRefusesExactlyNonOperations :
    decode .iox [0, 0, 0x0F] = .error .strayBits ∧ decode .cmd [] = .error .wrongLength ∧
    decode .iox [0, 0, 0x07] = .error .noSuchSize ∧ isRefusedCommand .operandNotABit = true := by decide

/-- StepsWithoutAnOperationChangeNothing: no request; command codes 0x00, 0x0F and 0xFF. -/
theorem test_witness_StepsWithoutAnOperation :
    (on wired).pending = [] ∧ ((0 : Byte) = 0 ∨ 14 < (0 : Byte).toNat) ∧ 14 < (15 : Byte).toNat ∧
    14 < (255 : Byte).toNat ∧ ¬ 14 < (14 : Byte).toNat := by decide

/-- StepKeepsInvariant, RegistrationAndBindingArePermanent: a state far from reset that meets the invariant. -/
theorem test_witness_invariant : Invariant (holding 0x700) := by
  refine ⟨?_, ?_, ?_, ?_, ?_, ?_, ?_, ?_, ?_⟩ <;> decide

/-- StepKeepsInvariant: its step completes. -/
theorem test_witness_StepKeepsInvariant :
    step ((on (holding 0x700)).withFetchWord 8 0x0D) =
      .next (after (on (holding 0x700)) (subsystemReset (on (holding 0x700))).blk [.picClear 10] .none) := rfl

/-- FieldsChangeOnlyByTheirWriters, EventsAreTheOperationsOwn, EnvironmentIsOnlyRead: an operation that completes, a
field it does not write. -/
theorem test_witness_FieldsChangeOnlyByTheirWriters :
    leaves (·.elcr0) (.setIrq 8 1) (on wired) = some 0 ∧ Field.elcr0 ∉ writers (.setIrq 8 1) ∧
    Field.dev2slot ∉ writers (.addCard 8 7) ∧ Field.caReg ∉ writers (.t2BusWr 1) ∧
    Field.elcr1 ∉ writers (.ioNone 0x04CF (.wr16 0)) ∧ Field.elcr1 ∈ writers (.ioNone 0x04D0 (.wr16 0)) := by decide

/-- FieldsChangeOnlyByTheirWriters: a registration that completes where the invariants hold. -/
theorem test_witness_RegisterKeepsBindings :
    Invariant (holding 0x700) ∧
    leaves (·.nslots) (.registerSlot 12 0 1 2 3 4) (on (holding 0x700)) = some 7 :=
  ⟨test_witness_invariant, by decide⟩

/-- HostReadsRevealNoRouterState: states that differ in a hold mask, in `no_steer` and in a past primitive. -/
theorem test_witness_SameToHost :
    SameToHost (on wired)
      { on { holding 0x300 with noSteer := true } with trace := [.event (.picLevel 10)] } := by
  exact ⟨rfl, rfl, rfl, rfl, rfl⟩

/-- NothingHappensBeforeInit. -/
theorem test_witness_NothingHappensBeforeInit :
    State.reset.blk.initialised = false ∧ ∀ type : Byte, Instr.reset ≠ .init type :=
  ⟨rfl, by intro type h; cases h⟩

/-- UnclaimedPortsDoNotRespond: four ports in a row, just past the ELCR, past CONFIG_DATA and past the window; and rows
that are not present: CONFIG_DATA of a Type 2 machine (B13), the window of a Type 1 machine. -/
theorem test_witness_UnclaimedPorts :
    (∀ k : Fin 4, ¬ ClaimsByte wired (0x04D2 + k.val)) ∧ (∀ k : Fin 4, ¬ ClaimsByte wired (0x0D00 + k.val)) ∧
    (∀ k : Fin 4, ¬ ClaimsByte pair (0xD000 + k.val)) ∧ (∀ k : Fin 4, ¬ ClaimsByte pair (0x0CFC + k.val)) ∧
    (∀ k : Fin 4, ¬ ClaimsByte wired (0xC800 + k.val)) := by
  have h : wired.mech = .t1 ∧ pair.pmc = false ∧ pair.mech = .t2 := ⟨rfl, rfl, rfl⟩
  refine ⟨?_, ?_, ?_, ?_, ?_⟩ <;> intro k <;> simp only [ClaimsByte, h] <;> simp <;> omega

/-- ClaimsByte at the ends of its ranges. -/
theorem test_claims_boundaries :
    ClaimsByte wired 0x0CFC ∧ ClaimsByte wired 0x0CFF ∧ ClaimsByte pair 0xC000 ∧ ClaimsByte pair 0xCFFF ∧
    ClaimsByte pair 0x0CF8 ∧ ClaimsByte wired 0x04D1 ∧ ClaimsByte pair 0x0CFB ∧ ¬ ClaimsByte pair 0x0CFC :=
  ⟨.inr (.inr (.inr (.inl (by decide)))), .inr (.inr (.inr (.inl (by decide)))), .inr (.inr (.inr (.inr (by decide)))),
    .inr (.inr (.inr (.inr (by decide)))), .inr (.inl (by decide)), .inl (by decide), .inr (.inr (.inl (by decide))),
    by rintro (h | h | h | h | h) <;> revert h <;> decide⟩

/-- The Type 1 statements: the ports are there, the latch is enabled on bus 0, device 8 is bound. -/
theorem test_witness_type1_reached :
    t1Ports (latched 0 8 0xFF true) = true ∧ (latched 0 8 0xFF true).caEn = true ∧ (latched 0 8 0xFF true).caBus = 0 ∧
    Reaches (latched 0 8 0xFF true) (latched 0 8 0xFF true).caDev 7 :=
  ⟨by decide, rfl, rfl, (boundDevice_eq_some _ _ _).1 (by decide)⟩

/-- The Type 1 statements, not present: disabled, another bus, unmapped (31), registered but unbound (0). -/
theorem test_witness_type1_notPresent :
    (latched 0 8 0 false).caEn = false ∧ (latched 0xFF 8 0 true).caBus ≠ 0 ∧
    (∀ h, ¬ Reaches (latched 0 31 0 true) (latched 0 31 0 true).caDev h) ∧
    (∀ h, ¬ Reaches (latched 0 0 0 true) (latched 0 0 0 true).caDev h) ∧ t1Ports (latched 0 31 0 true) = true :=
  ⟨rfl, by decide, (boundDevice_eq_none _ _).1 (by decide), (boundDevice_eq_none _ _).1 (by decide), by decide⟩

/-- The Type 2 register statements: the ports are there, before and after the switch. -/
theorem test_witness_type2 :
    t2Ports (type2 0 0) = true ∧ (type2 0 0).initialised = true ∧ (type2 0 0).mech = .t2 ∧
    t1Ports { type2 0 0 with pmc := true } = true := by decide

/-- The window statements: open on bus 0, devices 14 and 15 bound; registers 254 and 252 are the last of a wide access. -/
theorem test_witness_window_reached :
    windowOpen pair = true ∧ pair.t2Bus = 0 ∧ Reaches pair (BitVec.ofNat 5 (14 : BitVec 4).toNat) 1 ∧
    Reaches pair (BitVec.ofNat 5 ((14 : BitVec 4).toNat + 1)) 2 ∧ Reaches pair (BitVec.ofNat 5 (15 : BitVec 4).toNat) 2 ∧
    (254 : Byte).toNat + 2 ≤ 256 ∧ (252 : Byte).toNat + 4 ≤ 256 ∧ (14 : BitVec 4).toNat < 15 :=
  ⟨by decide, rfl, (boundDevice_eq_some _ _ _).1 (by decide), (boundDevice_eq_some _ _ _).1 (by decide),
    (boundDevice_eq_some _ _ _).1 (by decide), by decide, by decide, by decide⟩

/-- The window statements, not present: another bus, and device 13 that is not registered. -/
theorem test_witness_window_notPresent :
    windowOpen (type2 1 1) = true ∧ (type2 1 1).t2Bus ≠ 0 ∧ t2Ports pair = true ∧
    (∀ h, ¬ Reaches pair (BitVec.ofNat 5 (13 : BitVec 4).toNat) h) ∧
    (∀ h, ¬ Reaches pair ((13 : BitVec 4).setWidth 5) h) :=
  ⟨by decide, by decide, by decide, (boundDevice_eq_none _ _).1 (by decide), (boundDevice_eq_none _ _).1 (by decide)⟩

/-- The ELCR, TRC and RESET statements: initialised. -/
theorem test_witness_initialised : (on wired).blk.initialised = true := by decide

/-- IrqIsLevelAnswers: a fixed line; lines 7 and 8 + 7 of the ELCR; the mode bit; 16 is no line. -/
theorem test_witness_IrqIsLevelAnswers :
    (13 : Byte).toNat ∈ [0, 1, 2, 8, 13] ∧ (7 : Byte).toNat ∉ [0, 1, 2, 8, 13] ∧ (15 : Byte).toNat ∉ [0, 1, 2, 8, 13] ∧
    ({ wired with elcrEn := true } : Block).elcrEn = true ∧ wired.elcrEn = false ∧ (7 : Byte).toNat < 8 ∧
    8 ≤ (15 : Byte).toNat ∧ (15 : Byte).toNat < 16 ∧ 16 ≤ (16 : Byte).toNat := by decide

/-- TrcByteWrite: stored bit 2 set; written bit 2 clear; a soft reset; a full reset; a soft reset with the parameter
set. -/
theorem test_witness_TrcByteWrite :
    ({ wired with trc := 0x04 } : Block).trc.getLsbD 2 = true ∧ (0xFB : Byte).getLsbD 2 = false ∧
    wired.trc.getLsbD 2 = false ∧ (0x04 : Byte).getLsbD 2 = true ∧ (0x04 : Byte).getLsbD 1 = false ∧
    (on wired).params.trcSoftResetCascades = false ∧ (0x06 : Byte).getLsbD 2 = true ∧ (0x06 : Byte).getLsbD 1 = true ∧
    ({ on wired with params := { Params.default with trcSoftResetCascades := true } } : State).params.trcSoftResetCascades =
      true := by decide

/-- HardResetLeavesEveryLineEdge: at line 15, `elcr_en` set. -/
theorem test_witness_HardReset :
    ({ wired with elcrEn := true } : Block).trc.getLsbD 2 = false ∧ (15 : Byte).toNat < 16 ∧
    ({ wired with elcrEn := true } : Block).elcrEn = true := by decide

/-- InitSetsEveryField: the four values of bits 1:0. -/
theorem test_witness_InitSetsEveryField :
    (0xFD : Byte).toNat % 4 = 1 ∧ (0x7E : Byte).toNat % 4 = 2 ∧ (0x80 : Byte).toNat % 4 = 0 ∧ (0xFF : Byte).toNat % 4 = 3 := by
  decide

/-- RegisterSlotAppends: the 32nd slot, device number 31. -/
theorem test_witness_RegisterSlotAppends :
    ({ wired with nslots := 31 } : Block).initialised = true ∧ (31 : Byte).toNat < 32 ∧
    classNumbers[(0 : Byte).toNat]? = some .normal ∧ classNumbers[(6 : Byte).toNat]? = some .onboard ∧
    wiringNumbers[(0 : Byte).toNat]? = some .disabled ∧ wiringNumbers[(4 : Byte).toNat]? = some .intd ∧ ({ wired with nslots := 31 } : Block).nslots = (31 : Fin 32).val ∧
    (31 : Byte).toNat = (31 : Fin 32).val := by decide

/-- RegisterSlotRefuses: the first value outside each domain; a full table. -/
theorem test_witness_RegisterSlotRefuses :
    31 < (32 : Byte).toNat ∧ 6 < (7 : Byte).toNat ∧ 4 < (5 : Byte).toNat ∧
    ({ wired with nslots := 32 } : Block).nslots = 32 := by decide

/-- A slot whose class has this number matches it, and no other class does; the number of class `NONE` is none. -/
theorem test_MatchesNumber_class :
    MatchesNumber 0x80 wired.slots[(3 : Fin 32)] ∧ MatchesNumber 0x85 wired.slots[(1 : Fin 32)] ∧
    ¬ MatchesNumber 0x80 wired.slots[(0 : Fin 32)] ∧ ¬ MatchesNumber 0x87 wired.slots[(3 : Fin 32)] :=
  ⟨.inr ⟨.normal, by decide, rfl, rfl⟩, .inr ⟨.southbridge, by decide, rfl, rfl⟩, by simp [MatchesNumber, classNumbers, wired],
    by simp [MatchesNumber, classNumbers]⟩

/-- AddCardBindsTheFirstMatch: class NORMAL, where slot 2 is bound and slot 3 is free; device number 9. -/
theorem test_witness_AddCardBinds :
    (3 : Fin 32).val < wired.nslots ∧ wired.slots[(3 : Fin 32)].dev = none ∧
    MatchesNumber (0x80 : Byte).toNat wired.slots[(3 : Fin 32)] ∧ MatchesNumber (9 : Byte).toNat wired.slots[(3 : Fin 32)] ∧
    (∀ j : Fin 32, j < 3 → wired.slots[j].dev ≠ none ∨ ¬ MatchesNumber (0x80 : Byte).toNat wired.slots[j]) := by
  refine ⟨by decide, rfl, test_MatchesNumber_class.1, .inl (by decide), fun j hj => ?_⟩
  obtain rfl | rfl | rfl : j = 0 ∨ j = 1 ∨ j = 2 := by omega
  · exact .inr test_MatchesNumber_class.2.2.1
  · exact .inr (by simp [MatchesNumber, classNumbers, wired])
  · exact .inl (by decide)

/-- AddCardFailsWithNoFreeSlot: the ends of both gaps; class VIDEO, which no slot has. -/
theorem test_witness_AddCardFails :
    (32 ≤ (0x20 : Byte).toNat ∧ (0x20 : Byte).toNat < 0x80) ∧ (32 ≤ (0x7F : Byte).toNat ∧ (0x7F : Byte).toNat < 0x80) ∧
    0x87 ≤ (0x87 : Byte).toNat ∧
    (∀ j : Fin 32, j.val < wired.nslots →
      wired.slots[j].dev ≠ none ∨ ¬ MatchesNumber (0x81 : Byte).toNat wired.slots[j]) := by
  refine ⟨by decide, by decide, by decide, fun j _ => .inr ?_⟩
  have h : wired.slots[j].cls ≠ some .video := by revert j; decide
  rintro (⟨h', -⟩ | ⟨c, -, hc, hs⟩)
  · exact absurd h' (by decide)
  · exact h (by rw [hs, ← hc]; rfl)

/-- RegistrationAndBindingArePermanent: a bound slot and a completed operation that is not `INIT`. -/
theorem test_witness_Permanent :
    (2 : Fin 32).val < wired.nslots ∧ wired.slots[(2 : Fin 32)].dev = some 7 ∧
    leaves (fun b => b.slots[(2 : Fin 32)].dev) .reset (on wired) = some (some 7) := by decide

/-- RoutingEntriesAreWritten: the ends of 1-4 and their neighbours. -/
theorem test_witness_RoutingEntries :
    (1 : Byte).toNat = (0 : Fin 4).val + 1 ∧ (4 : Byte).toNat = (3 : Fin 4).val + 1 ∧ (0 : Byte).toNat = 0 ∧
    4 < (5 : Byte).toNat := by decide

/-- MirrorEntriesAreWritten: the ends of 0-2 and the next value. -/
theorem test_witness_MirrorEntries :
    (0 : Byte).toNat = (0 : Fin 3).val ∧ (2 : Byte).toNat = (2 : Fin 3).val ∧ 2 < (3 : Byte).toNat := by decide

/-- Pin D of card 9 steers to line 10, level. -/
theorem test_witness_SteersTo : SteersTo (on wired).blk 9 4 10 true ∧ (on wired).blk.noSteer = false :=
  ⟨⟨rfl, rfl, 3, 0, 9, 3, by decide, by decide, by decide, by decide, by decide, by decide⟩, rfl⟩

/-- UnroutedInterruptsDoNothing: a card that is not mapped. -/
theorem test_witness_Unrouted (q : Fin 16) (level : Bool) : ¬ SteersTo (on wired).blk 12 1 q level := by
  rintro ⟨-, -, k, r, d, i, -, hd, hi, -⟩
  obtain rfl : d = 12 := Fin.ext hd.symm
  revert i
  decide

/-- UnroutedInterruptsDoNothing: a pin outside 1-4. -/
theorem test_witness_UnroutedPin (q : Fin 16) (level : Bool) : ¬ SteersTo (on wired).blk 8 5 q level := by
  rintro ⟨-, -, k, r, d, i, hk, -⟩
  revert k
  decide

/-- UnroutedInterruptsDoNothing, without steering too: the ends of each clause, an unmapped card and a pin wired
nowhere. -/
theorem test_witness_UnroutedOperands :
    unsteered.initialised = true ∧ unsteered.noSteer = true ∧ (0 : Byte).toNat = 0 ∧ 4 < (5 : Byte).toNat ∧
    31 < (32 : Byte).toNat ∧ (31 : Byte).toNat = (31 : Fin 32).val ∧ unsteered.dev2slot[(31 : Fin 32)] = none ∧
    (7 : Byte).toNat = (7 : Fin 32).val ∧ (4 : Byte).toNat = (3 : Fin 4).val + 1 ∧
    unsteered.dev2slot[(7 : Fin 32)] = some 1 ∧ unsteered.slots[(1 : Fin 32)].route[(3 : Fin 4)] = .disabled := by decide

/-- F21. -/
theorem test_F21_noSteerUnrouted :
    events (.setIrq 7 1) (answering unsteered [0x0B]) = some [] ∧
    events (.clearIrq 12 1) (answering unsteered [0x0B]) = some [] := by decide

/-- NoSteeringAsksTheCard: a bound and an unbound slot; the answers 15 and 16; both values of the parameter. -/
theorem test_witness_NoSteering :
    unsteered.initialised = true ∧ unsteered.noSteer = true ∧ (1 : Byte).toNat = (0 : Fin 4).val + 1 ∧
    unsteered.dev2slot[(8 : Fin 32)] = some 2 ∧ routeIndex unsteered.slots[(2 : Fin 32)].route[(0 : Fin 4)] = some 0 ∧
    unsteered.slots[(2 : Fin 32)].dev = some 7 ∧ unsteered.dev2slot[(9 : Fin 32)] = some 3 ∧
    routeIndex unsteered.slots[(3 : Fin 32)].route[(0 : Fin 4)] = some 1 ∧ unsteered.slots[(3 : Fin 32)].dev = none ∧
    (answerAt (answering unsteered [15]) 0 7 0 0x3C).toNat = (15 : Fin 16).val ∧
    15 < (answerAt (answering unsteered [16]) 0 7 0 0x3C).toNat ∧
    (answering unsteered [15]).params.nosteerLevelSource = .edge ∧
    ({ answering unsteered [15] with params := { Params.default with nosteerLevelSource := .irqIsLevel } } :
      State).params.nosteerLevelSource = .irqIsLevel := by decide

/-- CardAsserts, CardClears: what `Resolve` gives: nothing, an edge line, a level line. -/
theorem test_witness_resolve :
    resolve 8 3 (on wired) = (.nothing, on wired) ∧ resolve 8 2 (on wired) = (.line 11 false, on wired) ∧
    resolve 8 1 (on wired) = (.line 10 true, on wired) := by decide

/-- CardAsserts, CardClears: the level line held by this card, by another only, by none. -/
theorem test_witness_CardAsserts :
    resolve 8 1 (on (holding 0x300)) = (.line 10 true, on (holding 0x300)) ∧
    (holding 0x300).hold[(10 : Fin 16)].getLsbD (8 : Byte).toNat = true ∧
    resolve 8 1 (on (holding 0x200)) = (.line 10 true, on (holding 0x200)) ∧
    (holding 0x200).hold[(10 : Fin 16)].getLsbD (8 : Byte).toNat = false ∧ (holding 0x200).hold[(10 : Fin 16)] ≠ 0 ∧
    wired.hold[(10 : Fin 16)] = 0 := by decide

/-- MirrorAsserts, MirrorClears: a number above 2; not enabled; routed to 16; enabled on 15, held and not held. -/
theorem test_witness_Mirror :
    2 < (3 : Byte).toNat ∧ wired.mirq[(0 : Fin 3)].enabled = false ∧
    15 < ({ wired with mirq := wired.mirq.set 2 ⟨true, 16⟩ } : Block).mirq[(2 : Fin 3)].irq.toNat ∧
    (mirrored 0).mirq[(2 : Fin 3)].enabled = true ∧ (mirrored 0).mirq[(2 : Fin 3)].irq.toNat = (15 : Fin 16).val ∧
    (mirrored 0).hold[(15 : Fin 16)].getLsbD (30 + (2 : Fin 3).val) = false ∧
    (mirrored 0x100000000).hold[(15 : Fin 16)].getLsbD (30 + (2 : Fin 3).val) = true := by decide

/-- LevelLinesAreSharedAndEdgesAreNot: three cards on level line 10, cleared in another order; one on edge line 11. -/
theorem test_witness_LevelLines :
    (on wired).blk.hold[(10 : Fin 16)] = 0 ∧ ([((8 : Byte), (1 : Byte)), (9, 4), (10, 3)].map Prod.fst).Nodup ∧
    ([((10 : Byte), (3 : Byte)), (8, 1)] ++ [(9, 4)]).Perm [(8, 1), (9, 4), (10, 3)] ∧
    (∀ c ∈ [((8 : Byte), (1 : Byte)), (9, 4), (10, 3)], SteersTo (on wired).blk c.1 c.2 10 true) ∧
    SteersTo (on wired).blk 8 2 11 false := by
  refine ⟨by decide, by decide, by decide, ?_, ⟨rfl, rfl, 1, 1, 8, 2, by decide, by decide, by decide, by decide, by decide, by decide⟩⟩
  intro c hc
  simp only [List.mem_cons, List.not_mem_nil, or_false] at hc
  obtain rfl | rfl | rfl := hc
  · exact ⟨rfl, rfl, 0, 0, 8, 2, by decide, by decide, by decide, by decide, by decide, by decide⟩
  · exact ⟨rfl, rfl, 3, 0, 9, 3, by decide, by decide, by decide, by decide, by decide, by decide⟩
  · exact ⟨rfl, rfl, 2, 0, 10, 4, by decide, by decide, by decide, by decide, by decide, by decide⟩

end Sys2Proof.Tests
end

section
/-! SUPPORT. The byte registers when they are present, and what the CONFIG_DATA read and the device read amount to
(40_config_decoder.md R131, R134, R137). -/

namespace Sys2Proof.Machine

open Sys2Proof

/-- The read of a register that is present is the register's own read (30_encoding.md R92). -/
theorem readByte_of_isPresent {r : ByteReg} {s : State} (hp : isPresent s.blk r = true) :
    readByte r s = readReg r s := if_pos hp

/-- The write of a register that is present is the register's own write (30_encoding.md R92). -/
theorem writeByte_of_isPresent {r : ByteReg} {s : State} (v : Byte) (hp : isPresent s.blk r = true) :
    writeByte r v s = writeReg r v s := if_pos hp

/-- The Type 1 gate is open exactly when the latch is enabled and names bus 0 (40_config_decoder.md R134). -/
theorem t1Gate_iff (b : Block) : t1Gate b = true ↔ b.caEn = true ∧ b.caBus = 0 := by
  rw [t1Gate, Bool.and_eq_true, beq_iff_eq]

/-- The index of a CONFIG_DATA lane with the lane as a number (30_encoding.md R96). -/
theorem configIndex_eq (lane : BitVec 2) (b : Block) :
    configIndex lane b = b.caReg ||| BitVec.ofNat 8 lane.toNat := by
  rw [configIndex, BitVec.ofNat_toNat]

/-- Behind an open gate CONFIG_DATA is the configuration read of the latched device. -/
theorem readConfigData_of_gate {lane : BitVec 2} {s : State} (hg : t1Gate s.blk = true) :
    readConfigData lane s = cfgRead8 s.blk.caDev s.blk.caFunc (configIndex lane s.blk) s := if_pos hg

/-- Behind a closed gate CONFIG_DATA reads 0xFF and calls nothing. -/
theorem readConfigData_of_not_gate {lane : BitVec 2} {s : State} (hg : ¬ t1Gate s.blk = true) :
    readConfigData lane s = (0xFF, s) := if_neg hg

/-- Disabled, on another bus or with no bound device, CONFIG_DATA reads 0xFF and calls nothing. -/
theorem readConfigData_of_not_present {lane : BitVec 2} {s : State}
    (hn : s.blk.caEn = false ∨ s.blk.caBus ≠ 0 ∨ ∀ h, ¬ Reaches s.blk s.blk.caDev h) :
    readConfigData lane s = (0xFF, s) := by
  by_cases hg : t1Gate s.blk = true
  · obtain ⟨hen, hbus⟩ := (t1Gate_iff s.blk).1 hg
    have hr : ∀ h, ¬ Reaches s.blk s.blk.caDev h := by simpa [hen, hbus] using hn
    rw [readConfigData_of_gate hg, cfgRead8_of_not_reaches hr]
  · exact readConfigData_of_not_gate hg

/-- A byte of CONFIG_DATA that reaches a device is one call of the device's read port. -/
theorem readConfigData_of_reaches {lane : BitVec 2} {s : State} {h : Handle} (hen : s.blk.caEn = true)
    (hbus : s.blk.caBus = 0) (hr : Reaches s.blk s.blk.caDev h) :
    readConfigData lane s = devRead h s.blk.caFunc (configIndex lane s.blk) s := by
  rw [readConfigData_of_gate ((t1Gate_iff s.blk).2 ⟨hen, hbus⟩), cfgRead8_of_reaches hr]

/-- An operation that returns the byte of one device read: one call, and the block as it was. -/
theorem complete8_devRead (h : Handle) (func : BitVec 3) (addr : Byte) (s : State) :
    complete8 (devRead h func addr s) =
      .next (after s s.blk [.devReadCall h func addr] (.val8 (answerAt s 0 h func addr))) := rfl

/-- `T1.DATA.RD8` while the Type 1 ports are present (40_config_decoder.md R137). -/
theorem exec_t1DataRd8 {s : State} (lane : BitVec 2) (hp : t1Ports s.blk = true) :
    exec (.t1DataRd8 lane) s = complete8 (readConfigData lane s) :=
  congrArg complete8 (readByte_of_isPresent (r := .configData lane) hp)

/-- `T2.BUS.WR` while the Type 2 ports are present (40_config_decoder.md R143). -/
theorem exec_t2BusWr {s : State} (v : Byte) (hp : t2Ports s.blk = true) :
    exec (.t2BusWr v) s = complete .none (withBlock { s.blk with t2Bus := v } s) :=
  congrArg (complete .none) (writeByte_of_isPresent (r := .bus) v hp)

end Sys2Proof.Machine
end

section
/-! The statements of the configuration decoder: a byte of CONFIG_DATA, and the Type 2 bus number. -/

namespace Sys2Proof.Machine

open Sys2Proof

/-- Settles O21: the cases are those of R137 and R131. With the gate closed or no bound device nothing is called; otherwise
the read is one device read at the latched register OR the lane. -/
theorem configDataByteRead : Obligations.ConfigDataByteRead := by
  unfold Obligations.ConfigDataByteRead
  refine ⟨by decide, fun s lane hp => ⟨fun hn => ?_, fun h hen hbus hr => ?_⟩⟩
  · rw [exec_t1DataRd8 lane hp, readConfigData_of_not_present hn]
    exact complete_eq_after (.val8 0xFF) s
  · rw [exec_t1DataRd8 lane hp, readConfigData_of_reaches hen hbus hr, configIndex_eq, complete8_devRead]

/-- Settles O28: the write of the bus number register, which stands behind the Type 2 ports, sets one field. -/
theorem busWriteSetsTheBusNumber : Obligations.BusWriteSetsTheBusNumber := by
  unfold Obligations.BusWriteSetsTheBusNumber
  refine ⟨by decide, fun s v hp => ?_⟩
  rw [exec_t2BusWr v hp, complete_withBlock]

end Sys2Proof.Machine
end

section
/-! SUPPORT. What `Resolve` gives (42_interrupt_router.md R203, R204), by the numbers of its operands, and what SET_IRQ and
CLEAR_IRQ do with a line it gives. -/

namespace Sys2Proof.Machine

open Sys2Proof

/-- The index of a pin operand, by number (30_encoding.md R108). -/
theorem intIndex_eq_some (v : Byte) (k : Fin 4) : intIndex v = some k ↔ v.toNat = k.val + 1 := by
  revert k
  revert v
  decide

/-- A device number operand, by number (30_encoding.md R107). -/
theorem deviceNumber_eq_some (v : Byte) (d : Fin 32) : deviceNumber v = some d ↔ v.toNat = d.val := by
  simp only [deviceNumber, Option.dite_none_right_eq_some, Option.some.injEq, Fin.ext_iff]
  exact ⟨fun ⟨_, h⟩ => h, fun h => ⟨by omega, h⟩⟩

/-- The line of an IRQ number (30_encoding.md R108). -/
theorem irqLine_eq_some (v : Byte) (q : Fin 16) : irqLine v = some q ↔ v.toNat = q.val := by
  simp only [irqLine, Option.dite_none_right_eq_some, Option.some.injEq, Fin.ext_iff]
  exact ⟨fun ⟨_, h⟩ => h, fun h => ⟨by omega, h⟩⟩

/-- Step 4 of `Resolve` gives a line exactly for the number of one. -/
theorem lineOrNothing_eq_line (irq : Byte) (level level' : Bool) (q : Fin 16) :
    lineOrNothing irq level = .line q level' ↔ irq.toNat = q.val ∧ level = level' := by
  rw [lineOrNothing, ← irqLine_eq_some]
  cases irqLine irq <;> simp

/-- Steps 1 to 3 of `Resolve` (42_interrupt_router.md R203): the pin of the card is wired to logical interrupt `r`, through
slot `i`. -/
def WiredTo (b : Block) (card pin : Byte) (i : Fin 32) (r : Fin 4) : Prop :=
  b.initialised = true ∧ ∃ (k : Fin 4) (d : Fin 32), pin.toNat = k.val + 1 ∧ card.toNat = d.val ∧
    b.dev2slot[d] = some i ∧ routeIndex b.slots[i].route[k] = some r

/-- What a wired pin resolves to: the card is asked without steering, the routing table otherwise. -/
theorem resolve_of_wiredTo {s : State} {card pin : Byte} {i : Fin 32} {r : Fin 4} (h : WiredTo s.blk card pin i r) :
    resolve card pin s =
      if s.blk.noSteer then resolveNoSteer i s else (lineOrNothing s.blk.irqRoute[r].irq s.blk.irqRoute[r].level, s) := by
  obtain ⟨hinit, k, d, hk, hd, hi, hr⟩ := h
  simp only [resolve, hinit, (intIndex_eq_some pin k).2 hk, (deviceNumber_eq_some card d).2 hd, hi, hr, if_true, steer]

/-- Only a wired pin resolves to a line. -/
theorem wiredTo_of_resolve {s s' : State} {card pin : Byte} {q : Fin 16} {level : Bool}
    (h : resolve card pin s = (.line q level, s')) : ∃ i r, WiredTo s.blk card pin i r := by
  unfold resolve at h
  split at h
  case isFalse => cases h
  case isTrue hinit =>
    split at h
    · cases h
    next k hk =>
      split at h
      · cases h
      next d hd =>
        split at h
        · cases h
        next i hi =>
          split at h
          · cases h
          next r hr =>
            exact ⟨i, r, hinit, k, d, (intIndex_eq_some pin k).1 hk, (deviceNumber_eq_some card d).1 hd, hi, hr⟩

/-- Only a card below 32 resolves to a line (42_interrupt_router.md R203). -/
theorem card_lt_of_resolve {s s' : State} {card pin : Byte} {q : Fin 16} {level : Bool}
    (h : resolve card pin s = (.line q level, s')) : card.toNat < 32 := by
  obtain ⟨i, r, -, k, d, -, hd, -⟩ := wiredTo_of_resolve h
  omega

/-- Steering is the wiring of the pin with the routing entry it is wired to (42_interrupt_router.md R204). -/
theorem steersTo_iff (b : Block) (card pin : Byte) (q : Fin 16) (level : Bool) :
    SteersTo b card pin q level ↔ b.noSteer = false ∧ ∃ i r, WiredTo b card pin i r ∧
      lineOrNothing b.irqRoute[r].irq b.irqRoute[r].level = .line q level := by
  simp only [lineOrNothing_eq_line]
  constructor
  · rintro ⟨hinit, hst, k, r, d, i, hk, hd, hi, hr, hq, hl⟩
    exact ⟨hst, i, r, ⟨hinit, k, d, hk, hd, hi, hr⟩, hq, hl⟩
  · rintro ⟨hst, i, r, ⟨hinit, k, d, hk, hd, hi, hr⟩, hq, hl⟩
    exact ⟨hinit, hst, k, r, d, i, hk, hd, hi, hr, hq, hl⟩

/-- A pin steered to a line resolves to it, and nothing is asked or changed. -/
theorem resolve_of_steersTo {s : State} {card pin : Byte} {q : Fin 16} {level : Bool}
    (h : SteersTo s.blk card pin q level) : resolve card pin s = (.line q level, s) := by
  obtain ⟨hst, i, r, hw, hl⟩ := (steersTo_iff s.blk card pin q level).1 h
  rw [resolve_of_wiredTo hw, hst, if_neg Bool.false_ne_true, hl]

/-- The hold masks play no part in steering. -/
theorem steersTo_setHold (p : Fin 16) (m : HoldMask) (b : Block) (card pin : Byte) (q : Fin 16) (level : Bool) :
    SteersTo (setHold p m b) card pin q level ↔ SteersTo b card pin q level := Iff.rfl

/-- `SET_IRQ` on a line (42_interrupt_router.md R206). -/
theorem exec_setIrq_of_line {s s' : State} {card pin : Byte} {q : Fin 16} {level : Bool}
    (h : resolve card pin s = (.line q level, s')) :
    exec (.setIrq card pin) s = complete .none (assertLine q level (bit64 card.toNat) s') := by
  simp only [exec, execSetIrq, h, cardOperandBit]

/-- `SET_IRQ` where `Resolve` gives nothing. -/
theorem exec_setIrq_of_nothing {s s' : State} {card pin : Byte} (h : resolve card pin s = (.nothing, s')) :
    exec (.setIrq card pin) s = complete .none s' := by
  simp only [exec, execSetIrq, h]

/-- `CLEAR_IRQ` on a line (42_interrupt_router.md R207). -/
theorem exec_clearIrq_of_line {s s' : State} {card pin : Byte} {q : Fin 16} {level : Bool}
    (h : resolve card pin s = (.line q level, s')) :
    exec (.clearIrq card pin) s = complete .none (releaseLine q level (bit64 card.toNat) s') := by
  simp only [exec, execClearIrq, h, cardOperandBit]

end Sys2Proof.Machine
end

section
/-! SUPPORT. The hold mask of a line under the assert and the clear algorithm: which sources hold it, and the one outcome
each algorithm has on a level line (42_interrupt_router.md R206, R207). -/

namespace Sys2Proof.Machine

open Sys2Proof

/-- The bits of a mask that gained a source. -/
theorem getLsbD_or_bit64 (m : HoldMask) {k : Nat} (hk : k < 64) (j : Nat) :
    (m ||| bit64 k).getLsbD j = (m.getLsbD j || decide (j = k)) := by
  rw [BitVec.getLsbD_or, getLsbD_bit64]
  by_cases hj : j = k <;> simp [hj, hk]

/-- The bits of a mask that lost a source. -/
theorem getLsbD_and_not_bit64 (m : HoldMask) (k j : Nat) :
    (m &&& ~~~bit64 k).getLsbD j = (m.getLsbD j && decide (j ≠ k)) := by
  rw [BitVec.getLsbD_and, BitVec.getLsbD_not, getLsbD_bit64]
  by_cases hj : j < 64
  · simp [hj]
  · simp [BitVec.getLsbD_of_ge m j (by omega)]

/-- A source that is in a mask adds nothing to it. -/
theorem or_bit64_of_held {m : HoldMask} {k : Nat} (h : m.getLsbD k = true) : m ||| bit64 k = m := by
  have hk : k < 64 := BitVec.lt_of_getLsbD h
  apply BitVec.eq_of_getLsbD_eq
  intro j _
  rw [getLsbD_or_bit64 m hk]
  by_cases hj : j = k <;> simp [hj, h]

/-- A mask that holds a source is not zero. -/
theorem ne_zero_of_held {m : HoldMask} {k : Nat} (h : m.getLsbD k = true) : m ≠ 0 := by
  rintro rfl
  simp at h

/-- Setting the mask a line has changes nothing. -/
theorem setHold_self (q : Fin 16) (b : Block) : setHold q b.hold[q] b = b := by
  simp [setHold]

/-- The last mask set is the one that counts. -/
@[simp] theorem setHold_setHold (q : Fin 16) (m m' : HoldMask) (b : Block) :
    setHold q m (setHold q m' b) = setHold q m b := by
  simp [setHold]

/-- The mask of a line after it was set. -/
theorem setHold_hold_same (q : Fin 16) (m : HoldMask) (b : Block) : (setHold q m b).hold[q] = m := by
  simp

/-- The assert algorithm on a level line: the source is in the mask afterwards, and the line is asserted exactly when
nobody held it (42_interrupt_router.md R206). -/
theorem complete_assertLine_level (q : Fin 16) {k : Nat} (hk : k < 64) (s : State) :
    complete .none (assertLine q true (bit64 k) s) =
      .next (after s (setHold q (s.blk.hold[q] ||| bit64 k) s.blk)
        (if s.blk.hold[q] = 0 then [.picLevel q] else []) .none) := by
  obtain ⟨hl, -⟩ | ⟨-, hb, h⟩ | ⟨-, -, hz, h⟩ | ⟨-, hz, h⟩ := assertLine_cases q true (bit64 k) s
  · cases hl
  · have held : s.blk.hold[q].getLsbD k = true := by simpa using mt (and_bit64_eq_zero _ k hk).2 hb
    rw [h, or_bit64_of_held held, if_neg (ne_zero_of_held held), setHold_self, complete_eq_after]
  · rw [h, if_neg hz, complete_withBlock]
  · rw [h, if_pos hz, hz, show (0 : HoldMask) ||| bit64 k = bit64 k from BitVec.zero_or]
    rfl

/-- The clear algorithm on a level line the source does hold: it loses the source, and it is cleared exactly when that was
the last (42_interrupt_router.md R207). -/
theorem complete_releaseLine_level {q : Fin 16} {k : Nat} {s : State} (held : s.blk.hold[q].getLsbD k = true) :
    complete .none (releaseLine q true (bit64 k) s) =
      .next (after s (setHold q (s.blk.hold[q] &&& ~~~bit64 k) s.blk)
        (if s.blk.hold[q] &&& ~~~bit64 k = 0 then [.picClear q] else []) .none) := by
  obtain ⟨hl, -⟩ | ⟨-, hb, -⟩ | ⟨-, -, hz, h⟩ | ⟨-, -, hz, h⟩ := releaseLine_cases q true (bit64 k) s
  · cases hl
  · rw [and_bit64_eq_zero _ k (BitVec.lt_of_getLsbD held), held] at hb
    cases hb
  · rw [h, if_neg hz, complete_withBlock]
  · rw [h, if_pos hz, hz]
    rfl

/-- The assert algorithm on an edge line: a pulse, whatever the mask, which stays (42_interrupt_router.md R206). -/
theorem complete_assertLine_edge (q : Fin 16) (bit : HoldMask) (s : State) :
    complete .none (assertLine q false bit s) = .next (after s s.blk [.picEdge q] .none) := rfl

/-- `SET_IRQ` of a card on a level line (42_interrupt_router.md R206). -/
theorem exec_setIrq_level {s s' : State} {card pin : Byte} {q : Fin 16}
    (h : resolve card pin s = (.line q true, s')) :
    exec (.setIrq card pin) s =
      .next (after s' (setHold q (s'.blk.hold[q] ||| bit64 card.toNat) s'.blk)
        (if s'.blk.hold[q] = 0 then [.picLevel q] else []) .none) := by
  have hc := card_lt_of_resolve h
  rw [exec_setIrq_of_line h, complete_assertLine_level q (by omega)]

/-- `SET_IRQ` of a card that holds its level line already: the redundant assert is suppressed (42_interrupt_router.md
R206). -/
theorem exec_setIrq_of_held {s s' : State} {card pin : Byte} {q : Fin 16}
    (h : resolve card pin s = (.line q true, s')) (held : s'.blk.hold[q].getLsbD card.toNat = true) :
    exec (.setIrq card pin) s = .next (after s' s'.blk [] .none) := by
  rw [exec_setIrq_level h, or_bit64_of_held held, if_neg (ne_zero_of_held held), setHold_self]

/-- `SET_IRQ` of a card on an edge line (42_interrupt_router.md R206). -/
theorem exec_setIrq_edge {s s' : State} {card pin : Byte} {q : Fin 16}
    (h : resolve card pin s = (.line q false, s')) :
    exec (.setIrq card pin) s = .next (after s' s'.blk [.picEdge q] .none) := by
  rw [exec_setIrq_of_line h, complete_assertLine_edge]

end Sys2Proof.Machine
end

section
/-! SUPPORT. Runs that only drive one line: the cards that hold it, counted along the run (42_interrupt_router.md R214). -/

namespace Sys2Proof.Machine

open Sys2Proof

/-- The sources of a hold mask are exactly these cards. -/
def HeldBy (m : HoldMask) (cards : List Byte) : Prop := ∀ j, m.getLsbD j = true ↔ ∃ c ∈ cards, c.toNat = j

/-- Only which cards hold the mask counts, not their order. -/
theorem HeldBy.of_perm {m : HoldMask} {l l' : List Byte} (h : HeldBy m l) (hp : l.Perm l') : HeldBy m l' :=
  fun j => (h j).trans (by simp only [hp.mem_iff])

/-- A mask is zero exactly when no card holds it. -/
theorem HeldBy.eq_zero_iff {m : HoldMask} {l : List Byte} (h : HeldBy m l) : m = 0 ↔ l = [] := by
  constructor
  · rintro rfl
    refine List.eq_nil_iff_forall_not_mem.2 fun c hc => ?_
    simpa using (h c.toNat).2 ⟨c, hc, rfl⟩
  · rintro rfl
    apply BitVec.eq_of_getLsbD_eq
    intro j _
    simpa using h j

/-- Nobody holds the zero mask. -/
theorem heldBy_zero : HeldBy 0 [] := fun j => by simp

/-- A card that asserts joins the holders. -/
theorem HeldBy.insert {m : HoldMask} {l : List Byte} (h : HeldBy m l) {c : Byte} (hc : c.toNat < 64) :
    HeldBy (m ||| bit64 c.toNat) (c :: l) := by
  intro j
  rw [getLsbD_or_bit64 m hc, Bool.or_eq_true, h j, decide_eq_true_iff, List.exists_mem_cons_iff, or_comm, eq_comm]

/-- A card that clears leaves the holders. -/
theorem HeldBy.erase {m : HoldMask} {c : Byte} {l : List Byte} (h : HeldBy m (c :: l)) (hc : c ∉ l) :
    HeldBy (m &&& ~~~bit64 c.toNat) l := by
  intro j
  rw [getLsbD_and_not_bit64, Bool.and_eq_true, h j, decide_eq_true_iff, List.exists_mem_cons_iff]
  constructor
  · rintro ⟨rfl | hd, hj⟩
    · exact absurd rfl hj
    · exact hd
  · rintro ⟨d, hd, rfl⟩
    exact ⟨.inr ⟨d, hd, rfl⟩, fun e => hc (BitVec.eq_of_toNat_eq e ▸ hd)⟩

/-- The events of one operation. -/
theorem eventsSince_after (s : State) (b : Block) (es : List Event) (r : Result) :
    eventsSince s.trace.length (after s b es r) = es := by
  simp [eventsSince, after, List.filterMap_map]

/-- From `s` to `t` the hold mask of line `q` became `m`, and nothing else of the block changed; these events were
emitted. -/
structure Drives (q : Fin 16) (s : State) (m : HoldMask) (es : List Event) (t : State) : Prop where
  blk : t.blk = setHold q m s.blk
  grows : s.trace <+: t.trace
  events : eventsSince s.trace.length t = es

/-- Doing nothing drives nothing. -/
theorem Drives.refl (q : Fin 16) (s : State) : Drives q s s.blk.hold[q] [] s :=
  ⟨(setHold_self q s.blk).symm, ⟨[], List.append_nil _⟩, by simp [eventsSince]⟩

/-- One after the other, the events join and the last mask counts. -/
theorem Drives.trans {q : Fin 16} {s t u : State} {m m' : HoldMask} {es es' : List Event} (h : Drives q s m es t)
    (h' : Drives q t m' es' u) : Drives q s m' (es ++ es') u := by
  refine ⟨by rw [h'.blk, h.blk, setHold_setHold], h.grows.trans h'.grows, ?_⟩
  rw [← h.events, ← h'.events]
  obtain ⟨o, ho⟩ := h.grows
  obtain ⟨o', ho'⟩ := h'.grows
  simp [eventsSince, ← ho', ← ho]

/-- One operation that sets the mask. -/
theorem drives_after (q : Fin 16) (s : State) (m : HoldMask) (es : List Event) :
    Drives q s m es (after s (setHold q m s.blk) es .none) :=
  ⟨rfl, by simp [after], eventsSince_after s _ es .none⟩

/-- The mask of the line at the end. -/
theorem Drives.hold {q : Fin 16} {s t : State} {m : HoldMask} {es : List Event} (h : Drives q s m es t) :
    t.blk.hold[q] = m := by
  rw [h.blk, setHold_hold_same]

/-- Driving a line leaves the steering. -/
theorem Drives.steersTo {q p : Fin 16} {s t : State} {m : HoldMask} {es : List Event} (h : Drives q s m es t)
    {card pin : Byte} {level : Bool} (hs : SteersTo s.blk card pin p level) : SteersTo t.blk card pin p level := by
  rw [h.blk]
  exact (steersTo_setHold q m s.blk card pin p level).2 hs

/-- `runAll` on a first operation that completes. -/
theorem runAll_cons {i : Instr} {is : List Instr} {s t : State} (h : exec i s = .next t) :
    runAll (i :: is) s = runAll is t := by
  rw [runAll, h]

/-- A card wired to a level line asserts it: it joins the holders, with an event exactly when it is the first. -/
theorem setIrq_drives {s : State} {q : Fin 16} {l : List Byte} (hl : HeldBy s.blk.hold[q] l) {card pin : Byte}
    (hs : SteersTo s.blk card pin q true) :
    ∃ (m : HoldMask) (t : State), exec (.setIrq card pin) s = .next t ∧ HeldBy m (card :: l) ∧
      Drives q s m (if l = [] then [.picLevel q] else []) t := by
  have hr := resolve_of_steersTo hs
  have hc := card_lt_of_resolve hr
  refine ⟨_, _, exec_setIrq_level hr, hl.insert (by omega), ?_⟩
  simp only [hl.eq_zero_iff]
  exact drives_after q s _ _

/-- A card among the holders of a level line clears it: it leaves the holders, with an event exactly when it is the last. -/
theorem clearIrq_drives {s : State} {q : Fin 16} {card pin : Byte} {l : List Byte}
    (hl : HeldBy s.blk.hold[q] (card :: l)) (hc : card ∉ l) (hs : SteersTo s.blk card pin q true) :
    ∃ (m : HoldMask) (t : State), exec (.clearIrq card pin) s = .next t ∧ HeldBy m l ∧
      Drives q s m (if l = [] then [.picClear q] else []) t := by
  have held : s.blk.hold[q].getLsbD card.toNat = true := (hl _).2 ⟨card, List.mem_cons_self, rfl⟩
  have rest := hl.erase hc
  refine ⟨_, _, (exec_clearIrq_of_line (resolve_of_steersTo hs)).trans (complete_releaseLine_level held), rest, ?_⟩
  simp only [rest.eq_zero_iff]
  exact drives_after q s _ _

/-- Cards that assert a level line somebody holds join the holders and emit nothing. -/
theorem runAll_setIrq_of_held {q : Fin 16} (cards : List (Byte × Byte)) {s : State} {l : List Byte} (hne : l ≠ [])
    (hl : HeldBy s.blk.hold[q] l) (hs : ∀ c ∈ cards, SteersTo s.blk c.1 c.2 q true) :
    ∃ m, HeldBy m (cards.map Prod.fst ++ l) ∧
      Drives q s m [] (runAll (cards.map fun c => .setIrq c.1 c.2) s) := by
  induction cards generalizing s l with
  | nil => exact ⟨_, hl, Drives.refl q s⟩
  | cons c cards ih =>
    obtain ⟨hc, hcs⟩ := List.forall_mem_cons.1 hs
    obtain ⟨m, t, ht, hm, hd⟩ := setIrq_drives hl hc
    rw [if_neg hne] at hd
    obtain ⟨m', hm', hd'⟩ := ih (List.cons_ne_nil c.1 l) (by rwa [hd.hold]) fun c hc => hd.steersTo (hcs c hc)
    simp only [List.map_cons, runAll_cons ht]
    exact ⟨m', hm'.of_perm List.perm_middle, hd.trans hd'⟩

/-- Cards that assert a level line nobody holds are its holders afterwards, and only the first emits. -/
theorem runAll_setIrq_of_free {q : Fin 16} {cards : List (Byte × Byte)} {s : State} (hne : cards ≠ [])
    (hz : s.blk.hold[q] = 0) (hs : ∀ c ∈ cards, SteersTo s.blk c.1 c.2 q true) :
    ∃ m, HeldBy m (cards.map Prod.fst) ∧
      Drives q s m [.picLevel q] (runAll (cards.map fun c => .setIrq c.1 c.2) s) := by
  cases cards with
  | nil => exact absurd rfl hne
  | cons c cards =>
    obtain ⟨hc, hcs⟩ := List.forall_mem_cons.1 hs
    obtain ⟨m, t, ht, hm, hd⟩ := setIrq_drives (by rw [hz]; exact heldBy_zero) hc
    obtain ⟨m', hm', hd'⟩ :=
      runAll_setIrq_of_held cards (List.cons_ne_nil c.1 []) (by rwa [hd.hold]) fun c hc => hd.steersTo (hcs c hc)
    simp only [List.map_cons, runAll_cons ht]
    exact ⟨m', hm'.of_perm List.perm_append_comm, hd.trans hd'⟩

/-- Holders that clear a level line another still holds leave it and emit nothing. -/
theorem runAll_clearIrq {q : Fin 16} (clears : List (Byte × Byte)) {s : State} {l : List Byte} (hne : l ≠ [])
    (hnd : (clears.map Prod.fst ++ l).Nodup) (hl : HeldBy s.blk.hold[q] (clears.map Prod.fst ++ l))
    (hs : ∀ c ∈ clears, SteersTo s.blk c.1 c.2 q true) :
    ∃ m, HeldBy m l ∧ Drives q s m [] (runAll (clears.map fun c => .clearIrq c.1 c.2) s) := by
  induction clears generalizing s with
  | nil => exact ⟨_, hl, Drives.refl q s⟩
  | cons c clears ih =>
    obtain ⟨hc, hcs⟩ := List.forall_mem_cons.1 hs
    rw [List.map_cons, List.cons_append] at hnd hl
    obtain ⟨hfresh, hnd'⟩ := List.nodup_cons.1 hnd
    obtain ⟨m, t, ht, hm, hd⟩ := clearIrq_drives hl hfresh hc
    rw [if_neg (List.append_ne_nil_of_right_ne_nil _ hne)] at hd
    obtain ⟨m', hm', hd'⟩ := ih hnd' (by rwa [hd.hold]) fun c hc => hd.steersTo (hcs c hc)
    rw [List.map_cons, runAll_cons ht]
    exact ⟨m', hm', hd.trans hd'⟩

/-- Share-counting (42_interrupt_router.md R214) with the holders named along the way: all cards, then the last one, then
none. -/
theorem share_counting {s : State} {q : Fin 16} {cards clears : List (Byte × Byte)} {last : Byte × Byte}
    (hz : s.blk.hold[q] = 0) (hnd : (cards.map Prod.fst).Nodup) (hp : (clears ++ [last]).Perm cards)
    (hs : ∀ c ∈ cards, SteersTo s.blk c.1 c.2 q true) :
    ∃ (t u v : State) (m m' : HoldMask),
      t = runAll (cards.map fun c => .setIrq c.1 c.2) s ∧ u = runAll (clears.map fun c => .clearIrq c.1 c.2) t ∧
      exec (.clearIrq last.1 last.2) u = .next v ∧ HeldBy m' [last.1] ∧
      Drives q s m [.picLevel q] t ∧ Drives q t m' [] u ∧ Drives q u 0 [.picClear q] v := by
  have hs' : ∀ c ∈ clears ++ [last], SteersTo s.blk c.1 c.2 q true := fun c hc => hs c (hp.mem_iff.1 hc)
  obtain ⟨hclears, hlast⟩ := List.forall_mem_append.1 hs'
  have hpm : (cards.map Prod.fst).Perm (clears.map Prod.fst ++ [last.1]) := by simpa using (hp.map Prod.fst).symm
  have hne : cards ≠ [] := by
    rintro rfl
    simpa using hp.length_eq
  obtain ⟨m, hm, st⟩ := runAll_setIrq_of_free hne hz hs
  obtain ⟨m', hm', tu⟩ := runAll_clearIrq clears (List.cons_ne_nil last.1 []) (hpm.nodup_iff.1 hnd)
    (by rw [st.hold]; exact hm.of_perm hpm) fun c hc => st.steersTo (hclears c hc)
  obtain ⟨m'', v, hv, hm'', uv⟩ := clearIrq_drives (l := []) (by rwa [tu.hold]) List.not_mem_nil
    ((st.trans tu).steersTo (hlast last List.mem_cons_self))
  rw [if_pos rfl, hm''.eq_zero_iff.2 rfl] at uv
  exact ⟨_, _, v, m, m', rfl, rfl, hv, hm', st, tu, uv⟩

end Sys2Proof.Machine
end

section
/-! The statements of the interrupt router: steering by the routing table, the assert, and the sharing of level lines. -/

namespace Sys2Proof.Machine

open Sys2Proof

/-- Settles O53: in steering mode step 4 of `Resolve` reads the entry the pin is wired to, and only a wired pin gets
there. -/
theorem steeringUsesTheRoutingTable : Obligations.SteeringUsesTheRoutingTable := by
  unfold Obligations.SteeringUsesTheRoutingTable
  refine fun s card pin q level hst => ⟨fun h => ?_, resolve_of_steersTo⟩
  obtain ⟨i, r, hw⟩ := wiredTo_of_resolve h
  rw [resolve_of_wiredTo hw, hst, if_neg Bool.false_ne_true, Prod.mk.injEq] at h
  exact (steersTo_iff s.blk card pin q level).2 ⟨hst, i, r, hw, h.1⟩

/-- Settles O56: the new mask is the old one with the card's bit; on a level line that is the one outcome of the assert,
which the cases of R206 read off. -/
theorem cardAsserts : Obligations.CardAsserts := by
  unfold Obligations.CardAsserts
  refine ⟨by decide, fun s s' card pin => ⟨fun h => ?_, fun q level h => ?_⟩⟩
  · rw [exec_setIrq_of_nothing h, complete_eq_after]
  · have hc := card_lt_of_resolve h
    refine ⟨_, getLsbD_or_bit64 s'.blk.hold[q] (show card.toNat < 64 by omega), ?_, ?_, ?_, ?_⟩
    · rintro rfl
      exact exec_setIrq_edge h
    · rintro rfl held
      exact exec_setIrq_of_held h held
    · rintro rfl - hne
      rw [exec_setIrq_level h, if_neg hne, setHold]
    · rintro rfl hz
      rw [exec_setIrq_level h, if_pos hz, setHold]

/-- Settles O60: share-counting follows the set of holders along the run; an edge line has no memory of a first assert, and
after one on a level line the card's bit is set. -/
theorem levelLinesAreSharedAndEdgesAreNot : Obligations.LevelLinesAreSharedAndEdgesAreNot := by
  unfold Obligations.LevelLinesAreSharedAndEdgesAreNot
  refine ⟨fun s q cards clears last hz hnd hp hs => ?_, fun s card pin q hs => ?_, fun s card pin q hs => ?_⟩
  · obtain ⟨t, u, v, m, m', ht, hu, hv, hm', st, tu, uv⟩ := share_counting hz hnd hp hs
    have held : u.blk.hold[q] ≠ 0 := by
      rw [tu.hold]
      exact fun h => List.cons_ne_nil _ _ (hm'.eq_zero_iff.1 h)
    have restored : v.blk = s.blk := by
      rw [(st.trans (tu.trans uv)).blk, ← hz, setHold_self]
    exact ⟨t, u, v, ht, hu, hv, st.events, tu.events, held, uv.events, restored⟩
  · have again : SteersTo (after s s.blk [.picEdge q] .none).blk card pin q false := hs
    rw [runAll_cons (exec_setIrq_edge (resolve_of_steersTo hs)),
      runAll_cons (exec_setIrq_edge (resolve_of_steersTo again)), runAll]
    rfl
  · have hr := resolve_of_steersTo hs
    have hc := card_lt_of_resolve hr
    refine ⟨_, exec_setIrq_level hr, ?_⟩
    refine exec_setIrq_of_held (resolve_of_steersTo ((steersTo_setHold _ _ _ _ _ _ _).2 hs)) ?_
    simp [after, getLsbD_or_bit64 _ (show card.toNat < 64 by omega)]

end Sys2Proof.Machine
end

section
/-! SUPPORT. The word and dword reads of TRC once the block is initialised: the rows are native, so no byte lane is read
(43_elcr_trc.md R245). -/

namespace Sys2Proof.Machine

open Sys2Proof

/-- `TRC.RD16` after `INIT` completes with all-ones (43_elcr_trc.md R245). -/
theorem exec_trcRd16 {s : State} (hi : s.blk.initialised = true) :
    exec .trcRd16 s = complete (.val16 0xFFFF) s := if_pos hi

/-- `TRC.RD32` after `INIT` completes with all-ones (43_elcr_trc.md R245). -/
theorem exec_trcRd32 {s : State} (hi : s.blk.initialised = true) :
    exec .trcRd32 s = complete (.val32 0xFFFFFFFF) s := if_pos hi

end Sys2Proof.Machine
end

section
/-! The statement of the TRC port: its wide reads. -/

namespace Sys2Proof.Machine

open Sys2Proof

/-- Settles O39: the two words select the wide rows of TRC, and an operation that only completes leaves the block as it was
and emits nothing. -/
theorem trcWideReadsAreAllOnes : Obligations.TrcWideReadsAreAllOnes := by
  unfold Obligations.TrcWideReadsAreAllOnes
  refine ⟨by decide, by decide, fun s hi => ⟨?_, ?_⟩⟩
  · rw [exec_trcRd16 hi, complete_eq_after]
  · rw [exec_trcRd32 hi, complete_eq_after]

end Sys2Proof.Machine
end

section
/-! SUPPORT. The shared operations only add events to the observation: what a byte write, the assert and clear
algorithms, the resets, the level query and `Resolve` do to the trace (00_scope.md R10, R13). -/

namespace Sys2Proof.Machine

open Sys2Proof

/-- From `s` to `s'` the observation grew by events only; no result joined it. -/
def Emits (s s' : State) : Prop := ∃ es : List Event, s'.trace = s.trace ++ es.map .event

theorem Emits.of_trace_eq {s s' : State} (h : s'.trace = s.trace) : Emits s s' := ⟨[], by simp [h]⟩

theorem Emits.refl (s : State) : Emits s s := .of_trace_eq rfl

theorem Emits.trans {s s' s'' : State} (h : Emits s s') (h' : Emits s' s'') : Emits s s'' := by
  obtain ⟨es, h⟩ := h
  obtain ⟨es', h'⟩ := h'
  exact ⟨es ++ es', by rw [h', h, List.map_append, List.append_assoc]⟩

theorem emits_emit (e : Event) (s : State) : Emits s (emit e s) := ⟨[e], rfl⟩

/-- The block's value plays no part in the observation. -/
theorem Emits.withBlock {s s' : State} (h : Emits s s') (b : Block) : Emits s (withBlock b s') := h

/-- Device reads add their events. -/
theorem OnlyCalls.emits {n : Nat} {s s' : State} (h : OnlyCalls n s s') : Emits s s' := by
  obtain ⟨es, -, -, rfl⟩ := h
  exact ⟨es, rfl⟩

theorem assertLine_emits (q : Fin 16) (level : Bool) (bit : HoldMask) (s : State) :
    Emits s (assertLine q level bit s) := by
  obtain ⟨-, h⟩ | ⟨-, -, h⟩ | ⟨-, -, -, h⟩ | ⟨-, -, h⟩ := assertLine_cases q level bit s <;> rw [h]
  · exact emits_emit _ s
  · exact .refl s
  · exact (Emits.refl s).withBlock _
  · exact (emits_emit _ s).withBlock _

theorem releaseLine_emits (q : Fin 16) (level : Bool) (bit : HoldMask) (s : State) :
    Emits s (releaseLine q level bit s) := by
  obtain ⟨-, h⟩ | ⟨-, -, h⟩ | ⟨-, -, -, h⟩ | ⟨-, -, -, h⟩ := releaseLine_cases q level bit s <;> rw [h]
  · exact emits_emit _ s
  · exact .refl s
  · exact (Emits.refl s).withBlock _
  · exact ((Emits.refl s).withBlock _).trans (emits_emit _ _)

theorem subsystemReset_emits (s : State) : Emits s (subsystemReset s) := ⟨_, subsystemReset_trace s⟩

theorem cascade_emits (s : State) : Emits s (cascade s) := ⟨_, cascade_trace s⟩

theorem writeTrc_emits (v : Byte) (s : State) : Emits s (writeTrc v s) := by
  obtain ⟨-, h⟩ | ⟨-, -, h⟩ | ⟨-, -, h⟩ := writeTrc_cases v s <;> rw [h]
  · exact (Emits.refl s).withBlock _
  · exact (emits_emit _ s).withBlock _
  · exact ((cascade_emits s).trans (emits_emit _ _)).withBlock _

/-- Whichever of the seven things a byte write does. -/
theorem ByteWrite.emits {v : Byte} {s s' : State} (h : ByteWrite v s s') : Emits s s' := by
  cases h with
  | nothing => exact .refl s
  | elcr reg => exact (Emits.refl s).withBlock _
  | cse => exact (Emits.refl s).withBlock _
  | trc => exact writeTrc_emits v s
  | bus => exact (Emits.refl s).withBlock _
  | pmc => exact (Emits.refl s).withBlock _
  | device h func addr => exact emits_emit _ s

/-- A further byte lane keeps it that only events were added. -/
theorem Emits.ioWrite8 {s : State} (p : Port) (v : Byte) (s' : State) (h : Emits s s') : Emits s (ioWrite8 p v s') :=
  h.trans (ioWrite8_does p v s').emits

theorem writeLanes16_emits (p : Port) (v : Word) (s : State) : Emits s (writeLanes16 p v s) :=
  writeLanes16_keeps .ioWrite8 p v s (.refl s)

theorem writeLanes32_emits (p : Port) (v : Dword) (s : State) : Emits s (writeLanes32 p v s) :=
  writeLanes32_keeps .ioWrite8 p v s (.refl s)

theorem isLevel_emits (q : Fin 16) (s : State) : Emits s (isLevel q s).2 := by
  obtain ⟨-, -, -, htrace⟩ := isLevel_frame q s
  exact .of_trace_eq htrace

theorem noSteerLevel_emits (q : Fin 16) (s : State) : Emits s (noSteerLevel q s).2 := by
  unfold noSteerLevel
  split
  · exact .refl s
  · exact isLevel_emits q s

/-- Asking a card for its IRQ number is no event or one device read (42_interrupt_router.md R205). -/
theorem noSteerIrq_emits (i : Fin 32) (s : State) : Emits s (noSteerIrq i s).2 := by
  unfold noSteerIrq
  split
  · exact .refl s
  · exact ⟨[_], devRead_trace _ _ _ s⟩

theorem resolveNoSteer_emits (i : Fin 32) (s : State) : Emits s (resolveNoSteer i s).2 := by
  have hasked := noSteerIrq_emits i s
  unfold resolveNoSteer
  dsimp only
  split
  · exact hasked
  · exact hasked.trans (noSteerLevel_emits _ _)

/-- `Resolve` leaves the state as it was, but for what asking the card without steering does to it
(42_interrupt_router.md R203). -/
theorem resolve_state (card pin : Byte) (s : State) :
    (resolve card pin s).2 = s ∨ ∃ i, (resolve card pin s).2 = (resolveNoSteer i s).2 := by
  unfold resolve
  split
  case isFalse => exact .inl rfl
  case isTrue =>
    split
    · exact .inl rfl
    · split
      · exact .inl rfl
      · split
        · exact .inl rfl
        next i _ =>
          split
          · exact .inl rfl
          · split
            · exact .inr ⟨i, rfl⟩
            · exact .inl rfl

theorem resolve_emits (card pin : Byte) (s : State) : Emits s (resolve card pin s).2 := by
  obtain h | ⟨i, h⟩ := resolve_state card pin s <;> rw [h]
  · exact .refl s
  · exact resolveNoSteer_emits i s

end Sys2Proof.Machine
end

section
/-! SUPPORT. An outcome that is a completed operation, and the shapes in which the meanings of the operations reach one:
a test, one access to a byte register, byte lanes (00_scope.md R10, R11; 60_exceptions.md R260). -/

namespace Sys2Proof.Machine

open Sys2Proof

/-- From `s` the outcome is a next state, whose observation grew by events and then exactly one result. -/
def Completes (s : State) (o : StepOutcome) : Prop :=
  ∃ (t : State) (es : List Event) (r : Result), o = .next t ∧ t.trace = s.trace ++ es.map .event ++ [.result r]

/-- Completing after steps that only emitted. -/
theorem Completes.complete {s s' : State} (h : Emits s s') (r : Result) : Completes s (complete r s') := by
  obtain ⟨es, h⟩ := h
  exact ⟨answer r s', es, r, rfl, by rw [answer_trace, h]⟩

theorem Completes.complete8 {s : State} {r : Byte × State} (h : Emits s r.2) : Completes s (complete8 r) :=
  .complete h _

theorem Completes.complete16 {s : State} {r : Word × State} (h : Emits s r.2) : Completes s (complete16 r) :=
  .complete h _

theorem Completes.complete32 {s : State} {r : Dword × State} (h : Emits s r.2) : Completes s (complete32 r) :=
  .complete h _

/-- An operation that emits nothing and changes at most the block. -/
theorem Completes.withBlock (r : Result) (b : Block) (s : State) : Completes s (Machine.complete r (withBlock b s)) :=
  .complete ((Emits.refl s).withBlock b) r

theorem Completes.atOnce (r : Result) (s : State) : Completes s (Machine.complete r s) := .complete (.refl s) r

/-- Refusing an operation completes it (00_scope.md R11). -/
theorem Completes.refuse (s : State) : Completes s (refuse s) := .atOnce .none s

/-- Both branches of a test complete. -/
theorem Completes.ite {c : Prop} [Decidable c] {s : State} {o o' : StepOutcome} (h : Completes s o)
    (h' : Completes s o') : Completes s (if c then o else o') := by
  split
  · exact h
  · exact h'

/-- An operation behind a test that refuses it otherwise, as before `INIT` (10_state.md R47). -/
theorem Completes.orRefuse {c : Prop} [Decidable c] {s : State} {o : StepOutcome} (h : Completes s o) :
    Completes s (if c then o else Machine.refuse s) := h.ite (.refuse s)

theorem readByte_completes (r : ByteReg) (s : State) : Completes s (complete8 (readByte r s)) :=
  .complete8 (readByte_calls r s).emits

theorem writeByte_completes (r : ByteReg) (v : Byte) (s : State) : Completes s (complete .none (writeByte r v s)) :=
  .complete (writeByte_does r v s).emits _

theorem readLanes16_completes (p : Port) (s : State) : Completes s (complete16 (readLanes16 p s)) :=
  .complete16 (readLanes16_calls p s).emits

theorem readLanes32_completes (p : Port) (s : State) : Completes s (complete32 (readLanes32 p s)) :=
  .complete32 (readLanes32_calls p s).emits

theorem writeLanes16_completes (p : Port) (v : Word) (s : State) : Completes s (complete .none (writeLanes16 p v s)) :=
  .complete (writeLanes16_emits p v s) _

theorem writeLanes32_completes (p : Port) (v : Dword) (s : State) : Completes s (complete .none (writeLanes32 p v s)) :=
  .complete (writeLanes32_emits p v s) _

end Sys2Proof.Machine
end

section
/-! SUPPORT. The operations whose meaning tests its operands: each branch completes (20_memory.md, 41_slot_registry.md,
42_interrupt_router.md). -/

namespace Sys2Proof.Machine

open Sys2Proof

theorem execIoNone_completes (port : Port) (access : Access) (s : State) : Completes s (execIoNone port access s) := by
  cases access with
  | rd8 => exact .atOnce _ s
  | rd16 => exact readLanes16_completes port s
  | rd32 => exact readLanes32_completes port s
  | wr8 v => exact .atOnce _ s
  | wr16 v => exact writeLanes16_completes port v s
  | wr32 v => exact writeLanes32_completes port v s

theorem execInit_completes (type : Byte) (s : State) : Completes s (execInit type s) := by
  unfold execInit
  cases initMech type with
  | none => exact .refuse s
  | some mech => exact .withBlock _ _ s

/-- Refused before `INIT`, for an operand outside its domain and for a full table (41_slot_registry.md R181). -/
theorem execRegisterSlot_completes (device cls inta intb intc intd : Byte) (s : State) :
    Completes s (execRegisterSlot device cls inta intb intc intd s) := by
  refine .orRefuse ?_
  split
  · exact .refuse s
  · split
    · exact .withBlock _ _ s
    · exact .refuse s

/-- Each failure and the binding return a value (41_slot_registry.md R183). -/
theorem execAddCard_completes (addType : Byte) (h : Handle) (s : State) : Completes s (execAddCard addType h s) := by
  have failed : Completes s (complete (.val8 0xFF) s) := .atOnce _ s
  refine .ite ?_ failed
  split
  · exact failed
  · split
    · exact failed
    · exact .withBlock _ _ s

theorem execSetIrqRouting_completes (pciInt irq : Byte) (s : State) : Completes s (execSetIrqRouting pciInt irq s) := by
  refine .orRefuse ?_
  cases intIndex pciInt with
  | none => exact .refuse s
  | some k => exact .withBlock _ _ s

theorem execSetIrqLevel_completes (pciInt : Byte) (level : Bool) (s : State) :
    Completes s (execSetIrqLevel pciInt level s) := by
  refine .orRefuse ?_
  cases intIndex pciInt with
  | none => exact .refuse s
  | some k => exact .withBlock _ _ s

/-- Whatever `Resolve` gives, `SET_IRQ` completes after it (42_interrupt_router.md R206). -/
theorem execSetIrq_completes (card pin : Byte) (s : State) : Completes s (execSetIrq card pin s) := by
  have hres := resolve_emits card pin s
  unfold execSetIrq
  generalize resolve card pin s = res at hres ⊢
  obtain ⟨res, s'⟩ := res
  cases res with
  | refuse => exact .complete hres _
  | nothing => exact .complete hres _
  | line q level => exact .complete (hres.trans (assertLine_emits q level _ s')) _

/-- Whatever `Resolve` gives, `CLEAR_IRQ` completes after it (42_interrupt_router.md R207). -/
theorem execClearIrq_completes (card pin : Byte) (s : State) : Completes s (execClearIrq card pin s) := by
  have hres := resolve_emits card pin s
  unfold execClearIrq
  generalize resolve card pin s = res at hres ⊢
  obtain ⟨res, s'⟩ := res
  cases res with
  | refuse => exact .complete hres _
  | nothing => exact .complete hres _
  | line q level => exact .complete (hres.trans (releaseLine_emits q level _ s')) _

theorem execEnableMirq_completes (mirq : Byte) (s : State) : Completes s (execEnableMirq mirq s) := by
  refine .orRefuse ?_
  cases mirqIndex mirq with
  | none => exact .refuse s
  | some m => exact .withBlock _ _ s

theorem execSetMirqRouting_completes (mirq irq : Byte) (s : State) : Completes s (execSetMirqRouting mirq irq s) := by
  refine .orRefuse ?_
  cases mirqIndex mirq with
  | none => exact .refuse s
  | some m => exact .withBlock _ _ s

theorem execSetMirq_completes (mirq : Byte) (level : Bool) (s : State) : Completes s (execSetMirq mirq level s) := by
  refine .orRefuse ?_
  cases mirqIndex mirq with
  | none => exact .refuse s
  | some m =>
    dsimp only
    cases mirqLine m s.blk with
    | none => exact .atOnce _ s
    | some q => exact .complete (assertLine_emits q level _ s) _

theorem execClearMirq_completes (mirq : Byte) (level : Bool) (s : State) :
    Completes s (execClearMirq mirq level s) := by
  refine .orRefuse ?_
  cases mirqIndex mirq with
  | none => exact .refuse s
  | some m =>
    dsimp only
    cases mirqLine m s.blk with
    | none => exact .atOnce _ s
    | some q => exact .complete (releaseLine_emits q level _ s) _

theorem execIrqIsLevel_completes (irq : Byte) (s : State) : Completes s (execIrqIsLevel irq s) := by
  refine .orRefuse ?_
  cases irqLine irq with
  | none => exact .refuse s
  | some q => exact .complete (isLevel_emits q s) _

end Sys2Proof.Machine
end

section
/-! The statement of the exceptions: there are none, every operation completes. -/

namespace Sys2Proof.Machine

open Sys2Proof

/-- Every operation completes. A native wide row completes at once where it is present and otherwise gives way to its
byte lanes (30_encoding.md R91). -/
theorem exec_completes (i : Instr) (s : State) : Completes s (exec i s) := by
  cases i with
  | elcrRd reg => exact readByte_completes (.elcr reg) s
  | elcrWr reg val => exact writeByte_completes (.elcr reg) val s
  | t1AddrRd => exact (Completes.atOnce _ s).ite (readLanes32_completes 0x0CF8 s)
  | t1AddrWr val => exact (Completes.withBlock _ _ s).ite (writeLanes32_completes 0x0CF8 val s)
  | t2CseRd => exact readByte_completes .cse s
  | t2CseWr val => exact writeByte_completes .cse val s
  | trcRd8 => exact readByte_completes .trc s
  | trcRd16 => exact (Completes.atOnce _ s).ite (readLanes16_completes 0x0CF9 s)
  | trcRd32 => exact (Completes.atOnce _ s).ite (readLanes32_completes 0x0CF9 s)
  | trcWr8 val => exact writeByte_completes .trc val s
  | trcWr16 val => exact (Completes.atOnce _ s).ite (writeLanes16_completes 0x0CF9 val s)
  | trcWr32 val => exact (Completes.atOnce _ s).ite (writeLanes32_completes 0x0CF9 val s)
  | t2BusRd => exact readByte_completes .bus s
  | t2BusWr val => exact writeByte_completes .bus val s
  | pmcRd => exact readByte_completes .pmc s
  | pmcWr val => exact writeByte_completes .pmc val s
  | t1DataRd8 lane => exact readByte_completes (.configData lane) s
  | t1DataRd16 lane => exact readLanes16_completes (configDataPort lane) s
  | t1DataRd32 lane => exact readLanes32_completes (configDataPort lane) s
  | t1DataWr8 lane val => exact writeByte_completes (.configData lane) val s
  | t1DataWr16 lane val => exact writeLanes16_completes (configDataPort lane) val s
  | t1DataWr32 lane val => exact writeLanes32_completes (configDataPort lane) val s
  | t2WinRd8 dev reg => exact readByte_completes (.window dev reg) s
  | t2WinRd16 dev reg => exact readLanes16_completes (windowPort dev reg) s
  | t2WinRd32 dev reg => exact readLanes32_completes (windowPort dev reg) s
  | t2WinWr8 dev reg val => exact writeByte_completes (.window dev reg) val s
  | t2WinWr16 dev reg val => exact writeLanes16_completes (windowPort dev reg) val s
  | t2WinWr32 dev reg val => exact writeLanes32_completes (windowPort dev reg) val s
  | ioNone port access => exact execIoNone_completes port access s
  | init type => exact execInit_completes type s
  | registerSlot device cls inta intb intc intd => exact execRegisterSlot_completes device cls inta intb intc intd s
  | addCard addType h => exact execAddCard_completes addType h s
  | setIrqRouting pciInt irq => exact execSetIrqRouting_completes pciInt irq s
  | setIrqLevel pciInt level => exact execSetIrqLevel_completes pciInt level s
  | setIrq card pin => exact execSetIrq_completes card pin s
  | clearIrq card pin => exact execClearIrq_completes card pin s
  | enableMirq mirq => exact execEnableMirq_completes mirq s
  | setMirqRouting mirq irq => exact execSetMirqRouting_completes mirq irq s
  | setMirq mirq level => exact execSetMirq_completes mirq level s
  | clearMirq mirq level => exact execClearMirq_completes mirq level s
  | elcrSetEnabled en => exact (Completes.withBlock _ _ s).orRefuse
  | reset => exact (Completes.complete (subsystemReset_emits s) _).orRefuse
  | irqIsLevel irq => exact execIrqIsLevel_completes irq s

/-- Settles O6: it holds, for each operation by the branches of its meaning. -/
theorem everyOperationCompletes : Obligations.EveryOperationCompletes := by
  unfold Obligations.EveryOperationCompletes
  exact exec_completes

end Sys2Proof.Machine
end

section
/-! SUPPORT. The claim table by register: the port of each byte register, the row an access selects at it, and the
decoder as the reading of that table (30_encoding.md R91, R92, R111). -/

namespace Sys2Proof.Machine

open Sys2Proof

/-- The port of a byte register (30_encoding.md R92). -/
def regPort : ByteReg → Port
  | .elcr reg => elcrPort reg
  | .cse => 0x0CF8
  | .trc => 0x0CF9
  | .bus => 0x0CFA
  | .pmc => 0x0CFB
  | .configData lane => configDataPort lane
  | .window dev reg => windowPort dev reg

theorem elcrPort_toNat (reg : BitVec 1) : (elcrPort reg).toNat = 0x04D0 + reg.toNat := by
  revert reg; decide

theorem configDataPort_toNat (lane : BitVec 2) : (configDataPort lane).toNat = 0x0CFC + lane.toNat := by
  revert lane; decide

/-- Two fields joined, by number. -/
theorem toNat_append_fields {m n : Nat} (x : BitVec m) (y : BitVec n) :
    (x ++ y).toNat = x.toNat * 2 ^ n + y.toNat := by
  rw [BitVec.toNat_append, ← Nat.shiftLeft_add_eq_or_of_lt y.isLt, Nat.shiftLeft_eq]

theorem windowPort_toNat (dev : BitVec 4) (reg : Byte) :
    (windowPort dev reg).toNat = 0xC000 + 256 * dev.toNat + reg.toNat := by
  rw [windowPort, toNat_append_fields, toNat_append_fields, show (0xC : BitVec 4).toNat = 12 from rfl]
  omega

/-- The mask of the window rows, by port number (30_encoding.md R111). -/
theorem extract_window_iff (p : Port) : p.extractLsb' 12 4 = 0xC ↔ 0xC000 ≤ p.toNat ∧ p.toNat ≤ 0xCFFF := by
  simp only [BitVec.toNat_eq, BitVec.extractLsb'_toNat, Nat.shiftRight_eq_div_pow,
    BitVec.ofNat_eq_ofNat, BitVec.toNat_ofNat]
  omega

/-- The mask of the CONFIG_DATA rows, by port number (30_encoding.md R111). -/
theorem extract_configData_iff (p : Port) : p.extractLsb' 2 14 = 0x33F ↔ 0x0CFC ≤ p.toNat ∧ p.toNat ≤ 0x0CFF := by
  simp only [BitVec.toNat_eq, BitVec.extractLsb'_toNat, Nat.shiftRight_eq_div_pow,
    BitVec.ofNat_eq_ofNat, BitVec.toNat_ofNat]
  omega

/-- The mask of the ELCR rows, by port number (30_encoding.md R111). -/
theorem extract_elcr_iff (p : Port) : p.extractLsb' 1 15 = 0x268 ↔ 0x04D0 ≤ p.toNat ∧ p.toNat ≤ 0x04D1 := by
  simp only [BitVec.toNat_eq, BitVec.extractLsb'_toNat, Nat.shiftRight_eq_div_pow,
    BitVec.ofNat_eq_ofNat, BitVec.toNat_ofNat]
  omega

/-- A port under the window mask is the port of its device and register. -/
theorem windowPort_extract {p : Port} (h : p.extractLsb' 12 4 = 0xC) :
    windowPort (p.extractLsb' 8 4) (p.extractLsb' 0 8) = p := by
  rw [extract_window_iff] at h
  apply BitVec.eq_of_toNat_eq
  simp only [windowPort_toNat, BitVec.extractLsb'_toNat, Nat.shiftRight_eq_div_pow]
  omega

/-- A port under the CONFIG_DATA mask is the port of its lane. -/
theorem configDataPort_extract {p : Port} (h : p.extractLsb' 2 14 = 0x33F) :
    configDataPort (p.extractLsb' 0 2) = p := by
  rw [extract_configData_iff] at h
  apply BitVec.eq_of_toNat_eq
  simp only [configDataPort_toNat, BitVec.extractLsb'_toNat, Nat.shiftRight_eq_div_pow]
  omega

/-- A port under the ELCR mask is the port of its register. -/
theorem elcrPort_extract {p : Port} (h : p.extractLsb' 1 15 = 0x268) : elcrPort (p.extractLsb' 0 1) = p := by
  rw [extract_elcr_iff] at h
  apply BitVec.eq_of_toNat_eq
  simp only [elcrPort_toNat, BitVec.extractLsb'_toNat, Nat.shiftRight_eq_div_pow]
  omega

@[simp] theorem byteReg_regPort (r : ByteReg) : byteReg (regPort r) = some r := by
  cases r with
  | elcr reg => exact byteReg_elcrPort reg
  | cse => rfl
  | trc => rfl
  | bus => rfl
  | pmc => rfl
  | configData lane => exact byteReg_configDataPort lane
  | window dev reg => exact byteReg_windowPort dev reg

/-- The register at a port is the one whose port it is: no two stand at one port (30_encoding.md R92). -/
theorem byteReg_eq_some (p : Port) (r : ByteReg) : byteReg p = some r ↔ regPort r = p := by
  refine ⟨fun h => ?_, fun h => h ▸ byteReg_regPort r⟩
  unfold byteReg at h
  split at h
  next hp => cases h; exact windowPort_extract hp
  split at h
  next hp => cases h; exact configDataPort_extract hp
  split at h
  next hp => cases h; exact elcrPort_extract hp
  split at h
  next hp => cases h; exact hp.symm
  split at h
  next hp => cases h; exact hp.symm
  split at h
  next hp => cases h; exact hp.symm
  split at h
  next hp => cases h; exact hp.symm
  cases h

/-- A port is the port of one byte register, or of none. -/
theorem port_cases (p : Port) : (∃ r, p = regPort r) ∨ byteReg p = none := by
  cases h : byteReg p with
  | none => exact .inr rfl
  | some r => exact .inl ⟨r, ((byteReg_eq_some p r).1 h).symm⟩

/-- The byte registers stand exactly at the ports some byte row names. -/
theorem isSome_byteReg (p : Port) : (byteReg p).isSome = isBytePort p := by
  rw [Bool.eq_iff_iff]
  have ports : isBytePort p = true ↔ p.extractLsb' 12 4 = 0xC ∨ p.extractLsb' 2 14 = 0x33F ∨
      p.extractLsb' 1 15 = 0x268 ∨ p = 0x0CF8 ∨ p = 0x0CF9 ∨ p = 0x0CFA ∨ p = 0x0CFB := by
    simp only [isBytePort, isWindowPort, Bool.or_eq_true, Bool.and_eq_true, beq_iff_eq, decide_eq_true_eq,
      extract_window_iff, extract_configData_iff, extract_elcr_iff]
    bv_omega
  rw [ports]
  unfold byteReg
  split_ifs <;> simp_all

/-- The row that an access selects at a byte register: a native one, or for a byte access the register's own; none where
30_encoding.md R92 has no row of this width and direction. -/
def row : Access → ByteReg → Option Instr
  | .rd8, .elcr reg => some (.elcrRd reg)
  | .rd8, .cse => some .t2CseRd
  | .rd8, .trc => some .trcRd8
  | .rd8, .bus => some .t2BusRd
  | .rd8, .pmc => some .pmcRd
  | .rd8, .configData lane => some (.t1DataRd8 lane)
  | .rd8, .window dev reg => some (.t2WinRd8 dev reg)
  | .rd16, .trc => some .trcRd16
  | .rd16, .configData lane => some (.t1DataRd16 lane)
  | .rd16, .window dev reg => some (.t2WinRd16 dev reg)
  | .rd32, .cse => some .t1AddrRd
  | .rd32, .trc => some .trcRd32
  | .rd32, .configData lane => some (.t1DataRd32 lane)
  | .rd32, .window dev reg => some (.t2WinRd32 dev reg)
  | .wr8 v, .elcr reg => some (.elcrWr reg v)
  | .wr8 v, .cse => some (.t2CseWr v)
  | .wr8 v, .trc => some (.trcWr8 v)
  | .wr8 v, .bus => some (.t2BusWr v)
  | .wr8 v, .pmc => some (.pmcWr v)
  | .wr8 v, .configData lane => some (.t1DataWr8 lane v)
  | .wr8 v, .window dev reg => some (.t2WinWr8 dev reg v)
  | .wr16 v, .trc => some (.trcWr16 v)
  | .wr16 v, .configData lane => some (.t1DataWr16 lane v)
  | .wr16 v, .window dev reg => some (.t2WinWr16 dev reg v)
  | .wr32 v, .cse => some (.t1AddrWr v)
  | .wr32 v, .trc => some (.trcWr32 v)
  | .wr32 v, .configData lane => some (.t1DataWr32 lane v)
  | .wr32 v, .window dev reg => some (.t2WinWr32 dev reg v)
  | _, _ => none

/-- The decoder is the reading of `row` at the register of the port; `IO.NONE` where there is none (30_encoding.md
R91). -/
theorem decodeAccess_eq (p : Port) (a : Access) :
    decodeAccess p a = ((byteReg p).bind (row a)).getD (.ioNone p a) := by
  cases a <;> simp only [decodeAccess, decodeRead8, decodeRead16, decodeRead32, decodeWrite8, decodeWrite16,
    decodeWrite32, byteReg] <;> split_ifs <;> simp_all [row]

end Sys2Proof.Machine
end

section
/-! SUPPORT. Requests and operations: a host transaction survives the round trip through its bytes (30_encoding.md
R90). -/

namespace Sys2Proof.Machine

open Sys2Proof

/-- The row selected at a register is encoded as the access at the register's port. -/
theorem encode_row {a : Access} {r : ByteReg} {i : Instr} (h : row a r = some i) :
    encode i = (.iox, encodeAccess (regPort r) a) := by
  cases a <;> cases r <;> cases h <;> rfl

/-- An operation that is a row is well formed. -/
theorem wellFormed_row {a : Access} {r : ByteReg} {i : Instr} (h : row a r = some i) : i.wellFormed = true := by
  cases a <;> cases r <;> cases h <;> rfl

/-- At the port of a register the decoder gives the row selected there. -/
theorem decodeAccess_of_row {a : Access} {r : ByteReg} {i : Instr} (h : row a r = some i) :
    decodeAccess (regPort r) a = i := by
  rw [decodeAccess_eq, byteReg_regPort, Option.bind_some, h, Option.getD_some]

/-- No row is an `IO.NONE`. -/
theorem row_ne_ioNone {a b : Access} {r : ByteReg} {p : Port} : row a r ≠ some (.ioNone p b) := by
  cases a <;> cases r <;> simp [row]

/-- The ports of the 16-bit rows (30_encoding.md R92). -/
theorem isWordPort_regPort (r : ByteReg) : isWordPort (regPort r) = (row .rd16 r).isSome := by
  cases r with
  | elcr reg => revert reg; decide
  | configData lane => revert lane; decide
  | window dev reg =>
    simp only [row, Option.isSome_some, isWordPort, isWindowPort, regPort, windowPort_toNat, Bool.or_eq_true,
      Bool.and_eq_true, decide_eq_true_eq]
    omega
  | _ => rfl

/-- The ports of the 32-bit rows (30_encoding.md R92). -/
theorem isDwordPort_regPort (r : ByteReg) : isDwordPort (regPort r) = (row .rd32 r).isSome := by
  rw [isDwordPort, isWordPort_regPort]
  cases r with
  | elcr reg => revert reg; decide
  | configData lane => exact Bool.or_true _
  | window dev reg => exact Bool.or_true _
  | _ => rfl

/-- Every port of a 32-bit row is the port of a byte row (30_encoding.md R92). -/
theorem isBytePort_of_isDwordPort {p : Port} (h : isDwordPort p = true) : isBytePort p = true := by
  simp only [isDwordPort, isWordPort, isConfigDataPort, isWindowPort, isBytePort, Bool.or_eq_true, Bool.and_eq_true,
    beq_iff_eq, decide_eq_true_eq] at h ⊢
  omega

/-- The rows of the registers are the named rows of 30_encoding.md R92. -/
theorem isSome_row_byteReg (p : Port) (a : Access) : ((byteReg p).bind (row a)).isSome = hasNamedRow p a := by
  obtain ⟨r, rfl⟩ | hp := port_cases p
  · have byte : isBytePort (regPort r) = true := by rw [← isSome_byteReg, byteReg_regPort]; rfl
    rw [byteReg_regPort, Option.bind_some]
    cases a <;> simp only [hasNamedRow, byte, isWordPort_regPort, isDwordPort_regPort] <;> cases r <;> rfl
  · have byte : isBytePort p = false := by rw [← isSome_byteReg, hp]; rfl
    have dword : isDwordPort p = false := by
      rw [Bool.eq_false_iff] at byte ⊢
      exact mt isBytePort_of_isDwordPort byte
    obtain ⟨-, word⟩ := Bool.or_eq_false_iff.1 dword
    rw [hp, Option.bind_none, Option.isSome_none]
    cases a <;> simp only [hasNamedRow, byte, word, dword]

/-- A transaction that fits no named row is `IO.NONE` (30_encoding.md R91). -/
theorem decodeAccess_eq_ioNone_iff (p : Port) (a : Access) :
    decodeAccess p a = .ioNone p a ↔ hasNamedRow p a = false := by
  rw [decodeAccess_eq, ← isSome_row_byteReg]
  cases h : (byteReg p).bind (row a) with
  | none => simp
  | some i =>
    obtain ⟨r, -, hr⟩ := Option.bind_eq_some_iff.1 h
    simp only [Option.getD_some, Option.isSome_some, Bool.true_eq_false, iff_false]
    rintro rfl
    exact row_ne_ioNone hr

/-- What a transaction decodes to stands for that transaction, and is well formed. -/
theorem encode_decodeAccess (p : Port) (a : Access) :
    encode (decodeAccess p a) = (.iox, encodeAccess p a) ∧ (decodeAccess p a).wellFormed = true := by
  have none : hasNamedRow p a = false →
      encode (decodeAccess p a) = (.iox, encodeAccess p a) ∧ (decodeAccess p a).wellFormed = true := fun h => by
    rw [(decodeAccess_eq_ioNone_iff p a).2 h]
    exact ⟨rfl, by rw [Instr.wellFormed, h]; rfl⟩
  cases h : (byteReg p).bind (row a) with
  | none => exact none (by rw [← isSome_row_byteReg, h]; rfl)
  | some i =>
    obtain ⟨r, hr, hi⟩ := Option.bind_eq_some_iff.1 h
    obtain rfl := (byteReg_eq_some p r).1 hr
    rw [decodeAccess_of_row hi]
    exact ⟨encode_row hi, wellFormed_row hi⟩

/-- Every transaction decodes from its bytes (30_encoding.md section 3: "There is no illegal transaction"). -/
theorem decode_encodeAccess (p : Port) (a : Access) : decode .iox (encodeAccess p a) = .instr (decodeAccess p a) := by
  cases a <;> simp [decode, decodeTransaction, encodeAccess, transactionBytes, dwordBytes]

/-- The third byte of a transaction word without stray bits is its direction and its size code (30_encoding.md R90). -/
theorem head_eq (b2 : Byte) : b2.extractLsb' 3 5 = 0 →
    b2 = (BitVec.ofBool (b2.getLsbD 2) ++ b2.extractLsb' 0 2).setWidth 8 := by
  revert b2; decide

/-- A request with the format of host transactions decodes only if it is the request of the transaction it decodes
to. -/
theorem decodeTransaction_eq_instr {b0 b1 b2 : Byte} {data : List Byte} {i : Instr}
    (h : decodeTransaction b0 b1 b2 data = .instr i) :
    ∃ p a, encodeAccess p a = b0 :: b1 :: b2 :: data ∧ decodeAccess p a = i := by
  unfold decodeTransaction at h
  split_ifs at h with hstray hsize
  have head := head_eq b2 (not_not.1 hstray)
  generalize b2.getLsbD 2 = dir at h head
  generalize b2.extractLsb' 0 2 = size at h head hsize
  subst head
  dsimp only at h
  refine ⟨b1 ++ b0, ?_⟩
  split at h
  · split_ifs at h with h0 h1 <;> cases h
    · exact ⟨.rd8, by simp [encodeAccess, transactionBytes, h0], rfl⟩
    · exact ⟨.rd16, by simp [encodeAccess, transactionBytes, h1], rfl⟩
    · have h2 : size = 2 := by bv_omega
      exact ⟨.rd32, by simp [encodeAccess, transactionBytes, h2], rfl⟩
  · split_ifs at h with h0
    cases h
    exact ⟨.wr8 _, by simp [encodeAccess, transactionBytes, h0], rfl⟩
  · split_ifs at h with h1
    cases h
    exact ⟨.wr16 _, by simp [encodeAccess, transactionBytes, h1], rfl⟩
  · split_ifs at h with h2
    cases h
    exact ⟨.wr32 _, by simp [encodeAccess, transactionBytes, h2], rfl⟩
  · cases h

end Sys2Proof.Machine
end

section
/-! SUPPORT. Sideband operations survive the round trip through their bytes (30_encoding.md R105). -/

namespace Sys2Proof.Machine

open Sys2Proof

/-- A byte that is a 1-bit operand decodes, whichever operation takes it. -/
@[simp] theorem decodeBit_bitByte (b : Bool) (f : Bool → Instr) : decodeBit (bitByte b) f = .instr (f b) := by
  cases b <;> rfl

/-- A byte that decodes as a 1-bit operand is the byte of that bit. -/
theorem decodeBit_eq_instr {v : Byte} {f : Bool → Instr} {i : Instr} (h : decodeBit v f = .instr i) :
    ∃ b, bitByte b = v ∧ f b = i := by
  unfold decodeBit at h
  split_ifs at h with h0 h1 <;> cases h
  · exact ⟨false, h0.symm, rfl⟩
  · exact ⟨true, h1.symm, rfl⟩

/-- A command code is the byte of its number. -/
theorem byte_of_toNat {v : Byte} {n : Nat} (h : v.toNat = n) : v = BitVec.ofNat 8 n := by
  rw [← h, BitVec.ofNat_toNat, BitVec.setWidth_eq]

/-- A sideband request decodes only if it is the request of the operation it decodes to. -/
theorem decodeCommand_eq_instr {code : Byte} {operands : List Byte} {i : Instr}
    (h : decodeCommand code operands = .instr i) : encode i = (.cmd, code :: operands) ∧ i.wellFormed = true := by
  unfold decodeCommand at h
  split at h
  case h_15 => cases h
  all_goals
    rename_i hc
    obtain rfl := byte_of_toNat hc
    split at h
    case h_2 => cases h
  · cases h; exact ⟨rfl, rfl⟩
  · cases h; exact ⟨rfl, rfl⟩
  · cases h; simp [encode, Instr.wellFormed]
  · cases h; exact ⟨rfl, rfl⟩
  · obtain ⟨b, rfl, rfl⟩ := decodeBit_eq_instr h; exact ⟨rfl, rfl⟩
  · cases h; exact ⟨rfl, rfl⟩
  · cases h; exact ⟨rfl, rfl⟩
  · cases h; exact ⟨rfl, rfl⟩
  · cases h; exact ⟨rfl, rfl⟩
  · obtain ⟨b, rfl, rfl⟩ := decodeBit_eq_instr h; exact ⟨rfl, rfl⟩
  · obtain ⟨b, rfl, rfl⟩ := decodeBit_eq_instr h; exact ⟨rfl, rfl⟩
  · obtain ⟨b, rfl, rfl⟩ := decodeBit_eq_instr h; exact ⟨rfl, rfl⟩
  · cases h; exact ⟨rfl, rfl⟩
  · cases h; exact ⟨rfl, rfl⟩

end Sys2Proof.Machine
end

section
/-! The statements of the encoding: the round trip both ways, every transaction, and the words the spec writes out. -/

namespace Sys2Proof.Machine

open Sys2Proof

/-- The operation of a row comes back from its request. -/
theorem decode_encode_of_row {a : Access} {r : ByteReg} {i : Instr} (h : row a r = some i) :
    decode (encode i).1 (encode i).2 = .instr i := by
  rw [encode_row h, decode_encodeAccess, decodeAccess_of_row h]

/-- Settles O1: a host operation is the row of its register, which the decoder finds at the register's port; a sideband
operation is read back from its command code and its operand bytes. -/
theorem encodeThenDecode : Obligations.EncodeThenDecode := by
  unfold Obligations.EncodeThenDecode
  intro i hwf
  cases i with
  | elcrRd reg => exact decode_encode_of_row (a := .rd8) (r := .elcr reg) rfl
  | elcrWr reg val => exact decode_encode_of_row (a := .wr8 val) (r := .elcr reg) rfl
  | t1AddrRd => exact decode_encode_of_row (a := .rd32) (r := .cse) rfl
  | t1AddrWr val => exact decode_encode_of_row (a := .wr32 val) (r := .cse) rfl
  | t2CseRd => exact decode_encode_of_row (a := .rd8) (r := .cse) rfl
  | t2CseWr val => exact decode_encode_of_row (a := .wr8 val) (r := .cse) rfl
  | trcRd8 => exact decode_encode_of_row (a := .rd8) (r := .trc) rfl
  | trcRd16 => exact decode_encode_of_row (a := .rd16) (r := .trc) rfl
  | trcRd32 => exact decode_encode_of_row (a := .rd32) (r := .trc) rfl
  | trcWr8 val => exact decode_encode_of_row (a := .wr8 val) (r := .trc) rfl
  | trcWr16 val => exact decode_encode_of_row (a := .wr16 val) (r := .trc) rfl
  | trcWr32 val => exact decode_encode_of_row (a := .wr32 val) (r := .trc) rfl
  | t2BusRd => exact decode_encode_of_row (a := .rd8) (r := .bus) rfl
  | t2BusWr val => exact decode_encode_of_row (a := .wr8 val) (r := .bus) rfl
  | pmcRd => exact decode_encode_of_row (a := .rd8) (r := .pmc) rfl
  | pmcWr val => exact decode_encode_of_row (a := .wr8 val) (r := .pmc) rfl
  | t1DataRd8 lane => exact decode_encode_of_row (a := .rd8) (r := .configData lane) rfl
  | t1DataRd16 lane => exact decode_encode_of_row (a := .rd16) (r := .configData lane) rfl
  | t1DataRd32 lane => exact decode_encode_of_row (a := .rd32) (r := .configData lane) rfl
  | t1DataWr8 lane val => exact decode_encode_of_row (a := .wr8 val) (r := .configData lane) rfl
  | t1DataWr16 lane val => exact decode_encode_of_row (a := .wr16 val) (r := .configData lane) rfl
  | t1DataWr32 lane val => exact decode_encode_of_row (a := .wr32 val) (r := .configData lane) rfl
  | t2WinRd8 dev reg => exact decode_encode_of_row (a := .rd8) (r := .window dev reg) rfl
  | t2WinRd16 dev reg => exact decode_encode_of_row (a := .rd16) (r := .window dev reg) rfl
  | t2WinRd32 dev reg => exact decode_encode_of_row (a := .rd32) (r := .window dev reg) rfl
  | t2WinWr8 dev reg val => exact decode_encode_of_row (a := .wr8 val) (r := .window dev reg) rfl
  | t2WinWr16 dev reg val => exact decode_encode_of_row (a := .wr16 val) (r := .window dev reg) rfl
  | t2WinWr32 dev reg val => exact decode_encode_of_row (a := .wr32 val) (r := .window dev reg) rfl
  | ioNone port access =>
    have hnone : hasNamedRow port access = false := by simpa [Instr.wellFormed] using hwf
    exact (decode_encodeAccess port access).trans (congrArg _ ((decodeAccess_eq_ioNone_iff port access).2 hnone))
  | init type => rfl
  | registerSlot device cls inta intb intc intd => rfl
  | addCard addType h => simp [encode, decode, decodeCommand, dwordBytes]
  | setIrqRouting pciInt irq => rfl
  | setIrqLevel pciInt level => exact decodeBit_bitByte level _
  | setIrq card pin => rfl
  | clearIrq card pin => rfl
  | enableMirq mirq => rfl
  | setMirqRouting mirq irq => rfl
  | setMirq mirq level => exact decodeBit_bitByte level _
  | clearMirq mirq level => exact decodeBit_bitByte level _
  | elcrSetEnabled en => exact decodeBit_bitByte en _
  | reset => rfl
  | irqIsLevel irq => rfl

/-- Settles O2: a host request that decodes is the request of its transaction, which is that of the row decoded; a
sideband request is its operation's, command by command. -/
theorem decodeThenEncode : Obligations.DecodeThenEncode := by
  unfold Obligations.DecodeThenEncode
  intro fmt bytes i h
  unfold decode at h
  split at h
  · obtain ⟨p, a, hbytes, rfl⟩ := decodeTransaction_eq_instr h
    rw [← hbytes]
    exact encode_decodeAccess p a
  · cases h
  · exact decodeCommand_eq_instr h
  · cases h

/-- Settles O3: the transaction's own row, which is `IO.NONE` exactly where no register has a row for it. -/
theorem everyTransactionDecodes : Obligations.EveryTransactionDecodes := by
  unfold Obligations.EveryTransactionDecodes
  exact fun p a => ⟨decodeAccess p a, decode_encodeAccess p a, decodeAccess_eq_ioNone_iff p a⟩

/-- Settles O4: each word is decoded by evaluation. -/
theorem writtenOutWordsDecode : Obligations.WrittenOutWordsDecode := by
  unfold Obligations.WrittenOutWordsDecode
  decide

end Sys2Proof.Machine
end

section
/-! SUPPORT. What a step can do, by what the oldest pending request is (00_scope.md R7). -/

namespace Sys2Proof.Machine

open Sys2Proof

/-- With nothing pending a step changes nothing. -/
theorem step_of_idle {s : State} (hp : s.pending = []) : step s = .next s := by
  simp only [step, fetch, hp]

variable {s : State} {r : Request} {rest : List Request}

/-- A request that decodes is run, on the state with it taken. -/
theorem step_of_operation {i : Instr} (hp : s.pending = r :: rest) (hd : decode r.format r.bytes = .instr i) :
    step s = exec i { s with pending := rest } := by
  simp only [step, fetch, hp, hd]

/-- A request that 30_encoding.md R102 refuses is over at once. -/
theorem step_of_refusedCommand {e : DecodeError} (hp : s.pending = r :: rest)
    (hd : decode r.format r.bytes = .error e) (he : isRefusedCommand e = true) :
    step s = refuse { s with pending := rest } := by
  simp only [step, fetch, hp, hd, he, if_true]

/-- A request that is no operation is given no meaning. -/
theorem step_of_notAnOperation {e : DecodeError} (hp : s.pending = r :: rest)
    (hd : decode r.format r.bytes = .error e) (he : isRefusedCommand e = false) :
    step s = .refused (.notAnOperation e) := by
  simp only [step, fetch, hp, hd, he, Bool.false_eq_true, if_false]

/-- The errors that are no refused command. -/
theorem isRefusedCommand_eq_false (e : DecodeError) :
    isRefusedCommand e = false ↔ e = .noSuchSize ∨ e = .strayBits ∨ e = .wrongLength := by
  cases e <;> decide

/-- No operation is given no meaning (60_exceptions.md R260). -/
theorem exec_ne_refused (i : Instr) (s : State) (why : Refusal) : exec i s ≠ .refused why := by
  obtain ⟨t, es, r, h, -⟩ := exec_completes i s
  rw [h]
  exact nofun

end Sys2Proof.Machine
end

section
/-! The statements about steps: which operation a step runs, and what it does when it runs none. -/

namespace Sys2Proof.Machine

open Sys2Proof

/-- Settles O5: the oldest request is taken and its operation run. -/
theorem stepRunsTheDecodedOperation : Obligations.StepRunsTheDecodedOperation := by
  unfold Obligations.StepRunsTheDecodedOperation
  exact fun s r rest i hp hd _ => step_of_operation hp hd

/-- Settles O7: of the four things a step can do, only the fourth is a refusal, and it carries the decoder's error. -/
theorem stepRefusesExactlyNonOperations : Obligations.StepRefusesExactlyNonOperations := by
  unfold Obligations.StepRefusesExactlyNonOperations
  refine fun s why => ⟨fun h => ?_, ?_⟩
  · cases hp : s.pending with
    | nil => rw [step_of_idle hp] at h; cases h
    | cons r rest =>
      cases hd : decode r.format r.bytes with
      | instr i => rw [step_of_operation hp hd] at h; exact absurd h (exec_ne_refused i _ why)
      | error e =>
        cases he : isRefusedCommand e with
        | true => rw [step_of_refusedCommand hp hd he] at h; cases h
        | false =>
          rw [step_of_notAnOperation hp hd he] at h
          cases h
          exact ⟨r, rest, e, rfl, hd, (isRefusedCommand_eq_false e).1 he, rfl⟩
  · rintro ⟨r, rest, e, hp, hd, he, rfl⟩
    exact step_of_notAnOperation hp hd ((isRefusedCommand_eq_false e).2 he)

/-- A command code outside 0x01-0x0E is unknown, whatever follows it (30_encoding.md section 3). -/
theorem decodeCommand_of_unknown {code : Byte} (h : code = 0 ∨ 14 < code.toNat) (operands : List Byte) :
    decodeCommand code operands = .error .unknownCommand := by
  have range : code.toNat = 0 ∨ 14 < code.toNat := h.imp_left (congrArg BitVec.toNat)
  unfold decodeCommand
  split
  case h_15 => rfl
  all_goals omega

/-- Settles O8: an idle step is the identity, and an unknown command code is a refused command, which only completes. -/
theorem stepsWithoutAnOperationChangeNothing : Obligations.StepsWithoutAnOperationChangeNothing := by
  unfold Obligations.StepsWithoutAnOperationChangeNothing
  refine ⟨fun s hp => step_of_idle hp, fun s code operands rest hp hcode => ?_⟩
  rw [step_of_refusedCommand hp (decodeCommand_of_unknown hcode operands) rfl, refuse_eq_after]

/-- Settles O9: the fields of the power-on state, in which nothing is pending. -/
theorem resetIsPowerOn : Obligations.ResetIsPowerOn := by
  unfold Obligations.ResetIsPowerOn
  exact ⟨rfl, rfl, rfl, step_of_idle rfl⟩

end Sys2Proof.Machine
end

section
/-! SUPPORT. The claim table by port number (30_encoding.md R91, R92) is the claim table by register, for a byte and for
the lanes of a wide transaction (20_memory.md R62, R64). -/

namespace Sys2Proof.Machine

open Sys2Proof

/-- A byte read at the port of a register. -/
@[simp] theorem ioRead8_regPort (r : ByteReg) (s : State) : ioRead8 (regPort r) s = readByte r s := by
  rw [ioRead8, byteReg_regPort]

/-- A byte write at the port of a register. -/
@[simp] theorem ioWrite8_regPort (r : ByteReg) (v : Byte) (s : State) : ioWrite8 (regPort r) v s = writeByte r v s := by
  rw [ioWrite8, byteReg_regPort]

/-- A byte read where no register stands (20_memory.md R61). -/
theorem ioRead8_of_none {p : Port} (hp : byteReg p = none) (s : State) : ioRead8 p s = (0xFF, s) := by
  rw [ioRead8, hp]

/-- A byte write where no register stands (20_memory.md R61). -/
theorem ioWrite8_of_none {p : Port} (hp : byteReg p = none) (v : Byte) (s : State) : ioWrite8 p v s = s := by
  rw [ioWrite8, hp]

/-- Where no register stands, by port number. -/
theorem toNat_of_byteReg_eq_none {p : Port} (hp : byteReg p = none) :
    p.toNat ≠ 0x04D0 ∧ p.toNat ≠ 0x04D1 ∧ (p.toNat < 0x0CF8 ∨ 0x0CFF < p.toNat) ∧
      (p.toNat < 0xC000 ∨ 0xCFFF < p.toNat) := by
  have h : isBytePort p = false := by rw [← isSome_byteReg, hp]; rfl
  simp only [isBytePort, isWindowPort, Bool.or_eq_false_iff, beq_eq_false_iff_ne, Bool.and_eq_false_iff,
    decide_eq_false_iff_not] at h
  omega

/-- The read of a register that is not present (20_memory.md R61). -/
theorem readByte_of_absent {r : ByteReg} {s : State} (h : ¬ isPresent s.blk r = true) : readByte r s = (0xFF, s) :=
  if_neg h

/-- The write of a register that is not present (20_memory.md R61). -/
theorem writeByte_of_absent {r : ByteReg} {s : State} (v : Byte) (h : ¬ isPresent s.blk r = true) :
    writeByte r v s = s := if_neg h

/-- The Type 2 gate is open exactly when the bus is 0 (40_config_decoder.md R148). -/
theorem t2Gate_iff (b : Block) : t2Gate b = true ↔ b.t2Bus = 0 := beq_iff_eq

/-- Where PMC is present (30_encoding.md R92). -/
theorem pmcPresent_iff (b : Block) : pmcPresent b = true ↔ b.initialised = true ∧ b.mech = .t2 := by
  rw [pmcPresent, Bool.and_eq_true, beq_iff_eq]

/-- The index of a CONFIG_DATA port (30_encoding.md R96). -/
theorem configIndex_port (lane : BitVec 2) (b : Block) :
    configIndex lane b = b.caReg ||| BitVec.ofNat 8 ((0x0CFC + lane.toNat) % 4) := by
  rw [configIndex_eq, show (0x0CFC + lane.toNat) % 4 = lane.toNat by omega]

/-- The device number of a window port (30_encoding.md R100). -/
theorem window_device (dev : BitVec 4) (reg : Byte) :
    BitVec.ofNat 5 ((0xC000 + 256 * dev.toNat + reg.toNat) / 256 % 16) = dev.setWidth 5 := by
  rw [show (0xC000 + 256 * dev.toNat + reg.toNat) / 256 % 16 = dev.toNat by omega, BitVec.ofNat_toNat]

/-- The register of a window port (30_encoding.md R100). -/
theorem window_register (dev : BitVec 4) (reg : Byte) :
    BitVec.ofNat 8 ((0xC000 + 256 * dev.toNat + reg.toNat) % 256) = reg := by
  rw [show (0xC000 + 256 * dev.toNat + reg.toNat) % 256 = reg.toNat by omega, BitVec.ofNat_toNat, BitVec.setWidth_eq]

/-- A byte of CONFIG_DATA in the table: the rows before it are at other ports. -/
theorem tableRead8_configDataPort (lane : BitVec 2) (s : State) :
    tableRead8 (configDataPort lane) s = readByte (.configData lane) s := by
  simp only [tableRead8, configDataPort_toNat]
  iterate 6 rw [if_neg (by omega)]
  cases hp : t1Ports s.blk with
  | true =>
    rw [if_pos ⟨by omega, by omega, rfl⟩, readByte_of_isPresent (r := .configData lane) hp]
    simp only [readReg, readConfigData, t1Gate_iff, configIndex_port]
  | false => rw [if_neg (by simp), if_neg (by omega), readByte_of_absent (by simp [isPresent, hp])]

/-- A byte of the window in the table. -/
theorem tableRead8_windowPort (dev : BitVec 4) (reg : Byte) (s : State) :
    tableRead8 (windowPort dev reg) s = readByte (.window dev reg) s := by
  simp only [tableRead8, windowPort_toNat]
  iterate 7 rw [if_neg (by omega)]
  cases hp : windowOpen s.blk with
  | true =>
    rw [if_pos ⟨by omega, by omega, rfl⟩, readByte_of_isPresent (r := .window dev reg) hp]
    simp only [readReg, readWindow, t2Gate_iff, window_device, window_register]
  | false => rw [if_neg (by simp), readByte_of_absent (by simp [isPresent, hp])]

/-- `IoRead(p, 1)` by port number is the read of the register there. -/
theorem tableRead8_eq (p : Port) (s : State) : tableRead8 p s = ioRead8 p s := by
  obtain ⟨r, rfl⟩ | hp := port_cases p
  · rw [ioRead8_regPort]
    cases r with
    | configData lane => exact tableRead8_configDataPort lane s
    | window dev reg => exact tableRead8_windowPort dev reg s
    | elcr reg =>
      obtain rfl | rfl : reg = 0 ∨ reg = 1 := by revert reg; decide
      · simp [tableRead8, regPort, isPresent, readByte, readReg, elcrValue, elcrPort]
      · simp [tableRead8, regPort, isPresent, readByte, readReg, elcrValue, elcrPort]
    | cse => cases h : t2Ports s.blk <;> simp [tableRead8, regPort, readByte, isPresent, readReg, h]
    | trc => cases h : s.blk.initialised <;> simp [tableRead8, regPort, readByte, isPresent, readReg, h]
    | bus => cases h : t2Ports s.blk <;> simp [tableRead8, regPort, readByte, isPresent, readReg, h]
    | pmc =>
      have hv : (if s.blk.pmc then (1 : Byte) else 0) = pmcValue s.blk := by rw [pmcValue]; cases s.blk.pmc <;> rfl
      by_cases h : s.blk.initialised = true ∧ s.blk.mech = .t2
      · simp [tableRead8, regPort, readByte, isPresent, readReg, pmcPresent_iff, h, ← hv]
      · simp [tableRead8, regPort, readByte, isPresent, pmcPresent_iff, h]
  · obtain ⟨h0, h1, h2, h3⟩ := toNat_of_byteReg_eq_none hp
    rw [ioRead8_of_none hp, tableRead8]
    iterate 8 rw [if_neg (by omega)]

/-- The fields a byte of CSE gives, by number (30_encoding.md R97). -/
theorem writeCse_eq (v : Byte) (b : Block) :
    writeCse v b = { b with t2Func := BitVec.ofNat 3 (v.toNat / 2), t2Key := BitVec.ofNat 4 (v.toNat / 16) } := by
  have fields : v.extractLsb' 1 3 = BitVec.ofNat 3 (v.toNat / 2) ∧
      v.extractLsb' 4 4 = BitVec.ofNat 4 (v.toNat / 16) := by
    revert v; decide
  rw [writeCse, fields.1, fields.2]

/-- The bit a byte of PMC gives, by number (40_config_decoder.md R150). -/
theorem writePmc_eq (v : Byte) (b : Block) :
    writePmc v b = { clearDecoder b with pmc := v.toNat % 2 == 1 } := by
  have bit : v.getLsbD 0 = (v.toNat % 2 == 1) := by revert v; decide
  rw [writePmc, bit]

/-- A byte written to CONFIG_DATA in the table. -/
theorem tableWrite8_configDataPort (lane : BitVec 2) (v : Byte) (s : State) :
    tableWrite8 (configDataPort lane) v s = writeByte (.configData lane) v s := by
  simp only [tableWrite8, configDataPort_toNat]
  iterate 6 rw [if_neg (by omega)]
  cases hp : t1Ports s.blk with
  | true =>
    rw [if_pos ⟨by omega, by omega, rfl⟩, writeByte_of_isPresent (r := .configData lane) v hp]
    simp only [writeReg, writeConfigData, t1Gate_iff, configIndex_port]
  | false => rw [if_neg (by simp), if_neg (by omega), writeByte_of_absent v (by simp [isPresent, hp])]

/-- A byte written to the window in the table. -/
theorem tableWrite8_windowPort (dev : BitVec 4) (reg v : Byte) (s : State) :
    tableWrite8 (windowPort dev reg) v s = writeByte (.window dev reg) v s := by
  simp only [tableWrite8, windowPort_toNat]
  iterate 7 rw [if_neg (by omega)]
  cases hp : windowOpen s.blk with
  | true =>
    rw [if_pos ⟨by omega, by omega, rfl⟩, writeByte_of_isPresent (r := .window dev reg) v hp]
    simp only [writeReg, writeWindow, t2Gate_iff, window_device, window_register]
  | false => rw [if_neg (by simp), writeByte_of_absent v (by simp [isPresent, hp])]

/-- `IoWrite(p, 1, v)` by port number is the write of the register there. -/
theorem tableWrite8_eq (p : Port) (v : Byte) (s : State) : tableWrite8 p v s = ioWrite8 p v s := by
  obtain ⟨r, rfl⟩ | hp := port_cases p
  · rw [ioWrite8_regPort]
    cases r with
    | configData lane => exact tableWrite8_configDataPort lane v s
    | window dev reg => exact tableWrite8_windowPort dev reg v s
    | elcr reg =>
      obtain rfl | rfl : reg = 0 ∨ reg = 1 := by revert reg; decide
      · simp [tableWrite8, regPort, isPresent, writeByte, writeReg, writeElcr, elcrPort]
      · simp [tableWrite8, regPort, isPresent, writeByte, writeReg, writeElcr, elcrPort]
    | cse => cases h : t2Ports s.blk <;> simp [tableWrite8, regPort, writeByte, isPresent, writeReg, writeCse_eq, h]
    | trc => cases h : s.blk.initialised <;> simp [tableWrite8, regPort, writeByte, isPresent, writeReg, h]
    | bus => cases h : t2Ports s.blk <;> simp [tableWrite8, regPort, writeByte, isPresent, writeReg, h]
    | pmc =>
      by_cases h : s.blk.initialised = true ∧ s.blk.mech = .t2
      · simp [tableWrite8, regPort, writeByte, isPresent, writeReg, pmcPresent_iff, h, writePmc_eq]
      · simp [tableWrite8, regPort, writeByte, isPresent, pmcPresent_iff, h]
  · obtain ⟨h0, h1, h2, h3⟩ := toNat_of_byteReg_eq_none hp
    rw [ioWrite8_of_none hp, tableWrite8]
    iterate 8 rw [if_neg (by omega)]

end Sys2Proof.Machine
end

section
/-! SUPPORT. The lanes of a wide transaction as a list (20_memory.md R62, R64), and the transactions that are decomposed
into lanes (30_encoding.md R91). -/

namespace Sys2Proof.Machine

open Sys2Proof

/-- Two bytes joined are the number whose bytes they are (20_memory.md R62). -/
theorem word_eq_laneValue (b0 b1 : Byte) : b1 ++ b0 = BitVec.ofNat 16 (laneValue [b0, b1]) := by
  apply BitVec.eq_of_toNat_eq
  rw [toNat_append_fields, BitVec.toNat_ofNat, laneValue, laneValue, laneValue]
  omega

/-- Four bytes joined are the number whose bytes they are (20_memory.md R62). -/
theorem dword_eq_laneValue (b0 b1 b2 b3 : Byte) :
    b3 ++ b2 ++ (b1 ++ b0) = BitVec.ofNat 32 (laneValue [b0, b1, b2, b3]) := by
  apply BitVec.eq_of_toNat_eq
  rw [toNat_append_fields, word_eq_laneValue, word_eq_laneValue]
  simp only [BitVec.toNat_ofNat, laneValue]
  omega

/-- The two bytes of a number, least significant first (20_memory.md R62). -/
theorem littleEndian_two (v : Word) : littleEndian 2 v.toNat = [v.extractLsb' 0 8, v.extractLsb' 8 8] := by
  simp [littleEndian, BitVec.toNat_eq, Nat.shiftRight_eq_div_pow]

/-- The four bytes of a number, least significant first (20_memory.md R62). -/
theorem littleEndian_four (v : Dword) :
    littleEndian 4 v.toNat =
      [v.extractLsb' 0 8, v.extractLsb' 8 8, v.extractLsb' 16 8, v.extractLsb' 24 8] := by
  simp [littleEndian, BitVec.toNat_eq, Nat.shiftRight_eq_div_pow, Nat.div_div_eq_div_mul]

/-- A two-lane read is the lanes of the table, joined. -/
theorem readLanes16_eq (p : Port) (s : State) :
    readLanes16 p s = (BitVec.ofNat 16 (laneValue (tableReadLanes 2 p s).1), (tableReadLanes 2 p s).2) := by
  simp only [tableReadLanes, tableRead8_eq, ← word_eq_laneValue]
  rfl

/-- The third lane's port. -/
theorem port_add_two (p : Port) : p + 1 + 1 = p + 2 := by
  rw [BitVec.add_assoc]; rfl

/-- A four-lane read is the lanes of the table, joined. -/
theorem readLanes32_eq (p : Port) (s : State) :
    readLanes32 p s = (BitVec.ofNat 32 (laneValue (tableReadLanes 4 p s).1), (tableReadLanes 4 p s).2) := by
  simp only [tableReadLanes, tableRead8_eq, ← dword_eq_laneValue, port_add_two p]
  rfl

/-- A two-lane write is the lanes of the table. -/
theorem writeLanes16_eq (p : Port) (v : Word) (s : State) :
    writeLanes16 p v s = tableWriteLanes (littleEndian 2 v.toNat) p s := by
  simp only [littleEndian_two, tableWriteLanes, tableWrite8_eq]
  rfl

/-- A byte of half of a 32-bit value is a byte of the value. -/
theorem extract_halfword (v : Dword) (i : Nat) {j : Nat} (hj : j + 8 ≤ 16) :
    (v.extractLsb' i 16).extractLsb' j 8 = v.extractLsb' (i + j) 8 := by
  apply BitVec.eq_of_getLsbD_eq
  intro k hk
  simp only [BitVec.getLsbD_extractLsb', hk, show j + k < 16 by omega, decide_true, Bool.true_and, Nat.add_assoc]

/-- A four-lane write is the lanes of the table. -/
theorem writeLanes32_eq (p : Port) (v : Dword) (s : State) :
    writeLanes32 p v s = tableWriteLanes (littleEndian 4 v.toNat) p s := by
  rw [writeLanes32, writeLanes16, writeLanes16, ← port_add_two p]
  simp only [littleEndian_four, tableWriteLanes, tableWrite8_eq,
    extract_halfword v _ (j := 0) (by omega), extract_halfword v _ (j := 8) (by omega)]

/-- At the port of a register the decoder gives its row, or `IO.NONE` where it has none. -/
theorem decodeAccess_regPort (r : ByteReg) (a : Access) :
    decodeAccess (regPort r) a = (row a r).getD (.ioNone (regPort r) a) := by
  rw [decodeAccess_eq, byteReg_regPort, Option.bind_some]

/-- Where no register stands the decoder gives `IO.NONE`. -/
theorem decodeAccess_of_none {p : Port} (hp : byteReg p = none) (a : Access) : decodeAccess p a = .ioNone p a := by
  rw [decodeAccess_eq, hp, Option.bind_none, Option.getD_none]

/-- A byte read is the read of the port (30_encoding.md R91). -/
theorem exec_rd8 (p : Port) (s : State) : exec (decodeAccess p .rd8) s = complete8 (ioRead8 p s) := by
  obtain ⟨r, rfl⟩ | hp := port_cases p
  · rw [decodeAccess_regPort, ioRead8_regPort]
    cases r <;> rfl
  · rw [decodeAccess_of_none hp, ioRead8_of_none hp]
    rfl

/-- A byte write is the write of the port (30_encoding.md R91). -/
theorem exec_wr8 (p : Port) (v : Byte) (s : State) :
    exec (decodeAccess p (.wr8 v)) s = complete .none (ioWrite8 p v s) := by
  obtain ⟨r, rfl⟩ | hp := port_cases p
  · rw [decodeAccess_regPort, ioWrite8_regPort]
    cases r <;> rfl
  · rw [decodeAccess_of_none hp, ioWrite8_of_none hp]
    rfl

/-- CONFIG_ADDRESS has a native handler while the Type-1-style ports are present (20_memory.md R63). -/
def IsConfigAddress (p : Port) (b : Block) : Prop := p = 0x0CF8 ∧ t1Ports b = true

/-- The wide transactions of TRC have a native handler once the block is initialised (20_memory.md R63). -/
def NativeTrc (p : Port) (b : Block) : Prop := p = 0x0CF9 ∧ b.initialised = true

section
variable {p : Port} {s : State}

/-- A wide read of TRC (43_elcr_trc.md R245). -/
theorem exec_rd16_trc (h : NativeTrc p s.blk) : exec (decodeAccess p .rd16) s = complete (.val16 0xFFFF) s := by
  obtain ⟨rfl, hi⟩ := h
  exact exec_trcRd16 hi

theorem exec_rd32_trc (h : NativeTrc p s.blk) : exec (decodeAccess p .rd32) s = complete (.val32 0xFFFFFFFF) s := by
  obtain ⟨rfl, hi⟩ := h
  exact exec_trcRd32 hi

/-- `TRC.WR16` after `INIT` is ignored (43_elcr_trc.md R246). -/
theorem exec_trcWr16 (hi : s.blk.initialised = true) (v : Word) : exec (.trcWr16 v) s = complete .none s := if_pos hi

/-- `TRC.WR32` after `INIT` is ignored (43_elcr_trc.md R246). -/
theorem exec_trcWr32 (hi : s.blk.initialised = true) (v : Dword) : exec (.trcWr32 v) s = complete .none s := if_pos hi

/-- A wide write of TRC (43_elcr_trc.md R246). -/
theorem exec_wr16_trc (h : NativeTrc p s.blk) (v : Word) :
    exec (decodeAccess p (.wr16 v)) s = complete .none s := by
  obtain ⟨rfl, hi⟩ := h
  exact exec_trcWr16 hi v

theorem exec_wr32_trc (h : NativeTrc p s.blk) (v : Dword) :
    exec (decodeAccess p (.wr32 v)) s = complete .none s := by
  obtain ⟨rfl, hi⟩ := h
  exact exec_trcWr32 hi v

/-- `T1.ADDR.RD` while its row is present (40_config_decoder.md R136). -/
theorem exec_t1AddrRd (ht : t1Ports s.blk = true) : exec .t1AddrRd s = complete (.val32 (configAddress s.blk)) s :=
  if_pos ht

/-- `T1.ADDR.WR` while its row is present (40_config_decoder.md R135). -/
theorem exec_t1AddrWr (ht : t1Ports s.blk = true) (v : Dword) :
    exec (.t1AddrWr v) s = complete .none (withBlock (latchAddress v s.blk) s) := if_pos ht

/-- The read of CONFIG_ADDRESS. -/
theorem exec_rd32_configAddress (h : IsConfigAddress p s.blk) :
    exec (decodeAccess p .rd32) s = complete (.val32 (configAddress s.blk)) s := by
  obtain ⟨rfl, ht⟩ := h
  exact exec_t1AddrRd ht

/-- The write of CONFIG_ADDRESS. -/
theorem exec_wr32_configAddress (h : IsConfigAddress p s.blk) (v : Dword) :
    exec (decodeAccess p (.wr32 v)) s = complete .none (withBlock (latchAddress v s.blk) s) := by
  obtain ⟨rfl, ht⟩ := h
  exact exec_t1AddrWr ht v

/-- A 16-bit read without a native handler is decomposed (30_encoding.md R91). -/
theorem exec_rd16 (h : ¬ NativeTrc p s.blk) : exec (decodeAccess p .rd16) s = complete16 (readLanes16 p s) := by
  obtain ⟨r, rfl⟩ | hp := port_cases p
  · rw [decodeAccess_regPort]
    cases r with
    | trc => exact if_neg fun hi => h ⟨rfl, hi⟩
    | _ => rfl
  · rw [decodeAccess_of_none hp]
    rfl

/-- A 16-bit write without a native handler is decomposed (30_encoding.md R91). -/
theorem exec_wr16 (h : ¬ NativeTrc p s.blk) (v : Word) :
    exec (decodeAccess p (.wr16 v)) s = complete .none (writeLanes16 p v s) := by
  obtain ⟨r, rfl⟩ | hp := port_cases p
  · rw [decodeAccess_regPort]
    cases r with
    | trc => exact if_neg fun hi => h ⟨rfl, hi⟩
    | _ => rfl
  · rw [decodeAccess_of_none hp]
    rfl

/-- A 32-bit read without a native handler is decomposed (30_encoding.md R91). -/
theorem exec_rd32 (ha : ¬ IsConfigAddress p s.blk) (h : ¬ NativeTrc p s.blk) :
    exec (decodeAccess p .rd32) s = complete32 (readLanes32 p s) := by
  obtain ⟨r, rfl⟩ | hp := port_cases p
  · rw [decodeAccess_regPort]
    cases r with
    | trc => exact if_neg fun hi => h ⟨rfl, hi⟩
    | cse => exact if_neg fun ht => ha ⟨rfl, ht⟩
    | _ => rfl
  · rw [decodeAccess_of_none hp]
    rfl

/-- A 32-bit write without a native handler is decomposed (30_encoding.md R91). -/
theorem exec_wr32 (ha : ¬ IsConfigAddress p s.blk) (h : ¬ NativeTrc p s.blk) (v : Dword) :
    exec (decodeAccess p (.wr32 v)) s = complete .none (writeLanes32 p v s) := by
  obtain ⟨r, rfl⟩ | hp := port_cases p
  · rw [decodeAccess_regPort]
    cases r with
    | trc => exact if_neg fun hi => h ⟨rfl, hi⟩
    | cse => exact if_neg fun ht => ha ⟨rfl, ht⟩
    | _ => rfl
  · rw [decodeAccess_of_none hp]
    rfl

end

end Sys2Proof.Machine
end

section
/-! SUPPORT. What a port that the block does not claim in this state does: nothing, at every width (20_memory.md
R61). -/

namespace Sys2Proof.Machine

open Sys2Proof

/-- Where the Type-1-style ports are present (10_state.md R40). -/
theorem t1Ports_iff (b : Block) : t1Ports b = true ↔ b.initialised = true ∧ (b.mech = .t1 ∨ b.pmc = true) := by
  simp [t1Ports]

/-- Where the Type 2 ports are present (10_state.md R40). -/
theorem t2Ports_iff (b : Block) : t2Ports b = true ↔ b.initialised = true ∧ b.mech = .t2 ∧ b.pmc = false := by
  simp [t2Ports, and_assoc]

/-- Where the window is open (10_state.md R40). -/
theorem windowOpen_iff (b : Block) : windowOpen b = true ↔ t2Ports b = true ∧ b.t2Key ≠ 0 := by
  simp [windowOpen]

/-- A present register's port is claimed (30_encoding.md R92). -/
theorem claimsByte_of_isPresent {b : Block} {r : ByteReg} (h : isPresent b r = true) :
    ClaimsByte b (regPort r).toNat := by
  cases r with
  | elcr reg =>
    have hn := elcrPort_toNat reg
    exact .inl ⟨h, by rw [regPort]; omega⟩
  | trc => exact .inl ⟨h, .inr (.inr rfl)⟩
  | cse =>
    obtain ⟨hi, hm, hp⟩ := (t2Ports_iff b).1 h
    exact .inr (.inl ⟨hi, hm, hp, .inl rfl⟩)
  | bus =>
    obtain ⟨hi, hm, hp⟩ := (t2Ports_iff b).1 h
    exact .inr (.inl ⟨hi, hm, hp, .inr rfl⟩)
  | pmc =>
    obtain ⟨hi, hm⟩ := (pmcPresent_iff b).1 h
    exact .inr (.inr (.inl ⟨hi, hm, rfl⟩))
  | configData lane =>
    have hn := configDataPort_toNat lane
    obtain ⟨hi, hm⟩ := (t1Ports_iff b).1 h
    exact .inr (.inr (.inr (.inl ⟨hi, hm, by rw [regPort]; omega⟩)))
  | window dev reg =>
    have hn := windowPort_toNat dev reg
    obtain ⟨hports, hkey⟩ := (windowOpen_iff b).1 h
    obtain ⟨hi, hm, hp⟩ := (t2Ports_iff b).1 hports
    exact .inr (.inr (.inr (.inr ⟨hi, hm, hp, hkey, by rw [regPort]; omega⟩)))

/-- Nothing is claimed before `INIT` (10_state.md R47). -/
theorem not_claimsByte_of_not_initialised {b : Block} (h : b.initialised = false) (n : Nat) : ¬ ClaimsByte b n := by
  simp [ClaimsByte, h]

/-- The byte handler of the port does not respond: it reads all-ones and drops a write (20_memory.md R61). -/
def Silent (b : Block) (p : Port) : Prop :=
  ∀ s : State, s.blk = b → ioRead8 p s = (0xFF, s) ∧ ∀ v, ioWrite8 p v s = s

/-- Where no register stands. -/
theorem silent_of_none (b : Block) {p : Port} (hp : byteReg p = none) : Silent b p :=
  fun s _ => ⟨ioRead8_of_none hp s, fun v => ioWrite8_of_none hp v s⟩

/-- Where a register stands that is not present. -/
theorem silent_of_absent {b : Block} {r : ByteReg} (h : ¬ isPresent b r = true) : Silent b (regPort r) := by
  rintro s rfl
  exact ⟨by rw [ioRead8_regPort, readByte_of_absent h], fun v => by rw [ioWrite8_regPort, writeByte_of_absent v h]⟩

/-- Where the block does not claim the port now. -/
theorem silent_of_not_claimed {b : Block} {p : Port} (h : ¬ ClaimsByte b p.toNat) : Silent b p := by
  obtain ⟨r, rfl⟩ | hp := port_cases p
  · exact silent_of_absent (mt claimsByte_of_isPresent h)
  · exact silent_of_none b hp

section
variable {p : Port} {s : State} (h0 : Silent s.blk p)
include h0

/-- A byte read that is not answered. -/
theorem ioRead8_of_silent : ioRead8 p s = (0xFF, s) := (h0 s rfl).1

/-- A byte write that is not answered. -/
theorem ioWrite8_of_silent (v : Byte) : ioWrite8 p v s = s := (h0 s rfl).2 v

variable (h1 : Silent s.blk (p + 1))
include h1

/-- Two lanes read, neither of which is answered. -/
theorem readLanes16_of_silent : readLanes16 p s = (0xFFFF, s) := by
  simp only [readLanes16, ioRead8_of_silent h0, ioRead8_of_silent h1]
  rfl

/-- Two lanes written, neither of which is answered. -/
theorem writeLanes16_of_silent (v : Word) : writeLanes16 p v s = s := by
  rw [writeLanes16, ioWrite8_of_silent h0, ioWrite8_of_silent h1]

variable (h2 : Silent s.blk (p + 2)) (h3 : Silent s.blk (p + 3))
include h2 h3

/-- Four lanes read, none of which is answered. -/
theorem readLanes32_of_silent : readLanes32 p s = (0xFFFFFFFF, s) := by
  have h3' : Silent s.blk (p + 2 + 1) := by rwa [BitVec.add_assoc]
  simp only [readLanes32, readLanes16_of_silent h0 h1, readLanes16_of_silent h2 h3']
  rfl

/-- Four lanes written, none of which is answered. -/
theorem writeLanes32_of_silent (v : Dword) : writeLanes32 p v s = s := by
  have h3' : Silent s.blk (p + 2 + 1) := by rwa [BitVec.add_assoc]
  rw [writeLanes32, writeLanes16_of_silent h0 h1, writeLanes16_of_silent h2 h3']

end

/-- TRC is not native at an unclaimed port. -/
theorem not_nativeTrc_of_not_claimed {b : Block} {p : Port} (h : ¬ ClaimsByte b p.toNat) : ¬ NativeTrc p b := by
  rintro ⟨rfl, hi⟩
  exact h (.inl ⟨hi, .inr (.inr rfl)⟩)

/-- CONFIG_ADDRESS is not present where its second lane is unclaimed: with it comes TRC. -/
theorem not_isConfigAddress_of_not_claimed {b : Block} {p : Port} (h : ¬ ClaimsByte b (p + 1).toNat) :
    ¬ IsConfigAddress p b := by
  rintro ⟨rfl, ht⟩
  obtain ⟨hi, -⟩ := (t1Ports_iff b).1 ht
  exact h (.inl ⟨hi, .inr (.inr rfl)⟩)

end Sys2Proof.Machine
end

section
/-! The statements of the port interface: the decode order, and unclaimed ports. -/

namespace Sys2Proof.Machine

open Sys2Proof

/-- Settles O16: a native handler answers where the table has one; else the lanes of the model are the lanes of the
table, each the byte register at its port. -/
theorem hostTransactionsFollowTheDecodeOrder : Obligations.HostTransactionsFollowTheDecodeOrder := by
  unfold Obligations.HostTransactionsFollowTheDecodeOrder
  intro p a s
  cases a with
  | rd8 => rw [exec_rd8, hostTransaction, tableRead8_eq]; rfl
  | wr8 v => rw [exec_wr8, hostTransaction, tableWrite8_eq]
  | rd16 =>
    rw [hostTransaction]
    split_ifs with h
    · exact exec_rd16_trc h
    · rw [exec_rd16 h, readLanes16_eq]; rfl
  | wr16 v =>
    rw [hostTransaction]
    split_ifs with h
    · exact exec_wr16_trc h v
    · rw [exec_wr16 h, writeLanes16_eq]
  | rd32 =>
    rw [hostTransaction]
    split_ifs with ha h
    · exact exec_rd32_configAddress ha
    · exact exec_rd32_trc h
    · rw [exec_rd32 ha h, readLanes32_eq]; rfl
  | wr32 v =>
    rw [hostTransaction]
    split_ifs with ha h
    · exact exec_wr32_configAddress ha v
    · exact exec_wr32_trc h v
    · rw [exec_wr32 ha h, writeLanes32_eq]

/-- Settles O18: an unclaimed port has no native handler, and none of its lanes is answered. -/
theorem unclaimedPortsDoNotRespond : Obligations.UnclaimedPortsDoNotRespond := by
  unfold Obligations.UnclaimedPortsDoNotRespond
  intro p s c0
  have h0 := silent_of_not_claimed c0
  have trc := not_nativeTrc_of_not_claimed c0
  refine ⟨?_, fun v => ?_, fun c1 => ?_⟩
  · rw [exec_rd8, ioRead8_of_silent h0]
    exact complete_eq_after _ s
  · rw [exec_wr8, ioWrite8_of_silent h0, complete_eq_after]
  have h1 := silent_of_not_claimed c1
  have address := not_isConfigAddress_of_not_claimed c1
  refine ⟨?_, fun v => ?_, fun c2 c3 => ?_⟩
  · rw [exec_rd16 trc, readLanes16_of_silent h0 h1]
    exact complete_eq_after _ s
  · rw [exec_wr16 trc, writeLanes16_of_silent h0 h1, complete_eq_after]
  have h2 := silent_of_not_claimed c2
  have h3 := silent_of_not_claimed c3
  refine ⟨?_, fun v => ?_⟩
  · rw [exec_rd32 address trc, readLanes32_of_silent h0 h1 h2 h3]
    exact complete_eq_after _ s
  · rw [exec_wr32 address trc, writeLanes32_of_silent h0 h1 h2 h3, complete_eq_after]

end Sys2Proof.Machine
end

section
/-! SUPPORT. What each update of the block does: the fields it may change (10_state.md "written by"), and that it
keeps the invariants of 10_state.md section 8. -/

namespace Sys2Proof.Machine

open Sys2Proof

/-- From `b` to `b'` only these fields may have changed, and the invariants of 10_state.md R41 are kept. -/
structure Rewrites (fs : List Field) (b b' : Block) : Prop where
  same : ∀ f, f ∉ fs → sameField f b b'
  keeps : Invariant b → Invariant b'

theorem Rewrites.refl (fs : List Field) (b : Block) : Rewrites fs b b := ⟨fun f _ => sameField_refl f b, id⟩

theorem Rewrites.trans {fs : List Field} {b c d : Block} (h : Rewrites fs b c) (h' : Rewrites fs c d) :
    Rewrites fs b d :=
  ⟨fun f hf => sameField_trans (h.same f hf) (h'.same f hf), fun hi => h'.keeps (h.keeps hi)⟩

theorem Rewrites.mono {fs fs' : List Field} {b b' : Block} (h : Rewrites fs b b') (hsub : fs ⊆ fs') :
    Rewrites fs' b b' :=
  ⟨fun f hf => h.same f (mt (@hsub f) hf), h.keeps⟩

theorem rewrites_latchAddress (v : Dword) (b : Block) : Rewrites latchFields b (latchAddress v b) where
  same f hf := by cases f <;> simp_all [sameField, latchFields, latchAddress]
  keeps hi := { hi with }

theorem rewrites_trc (v : Byte) (b : Block) : Rewrites [.trc] b { b with trc := v } where
  same f hf := by cases f <;> simp_all [sameField]
  keeps hi := { hi with }

theorem rewrites_elcrEn (en : Bool) (b : Block) : Rewrites [.elcrEn] b { b with elcrEn := en } where
  same f hf := by cases f <;> simp_all [sameField]
  keeps hi := { hi with }

/-- An entry of a table replaced by one with the same value of a field changes that field nowhere. -/
theorem proj_set {n : Nat} {α β : Type} (f : α → β) (t : Vector α n) (k : Fin n) (x : α) (h : f t[k] = f x)
    (j : Fin n) :
    f t[j] = f (t.set k x)[j] := by
  by_cases hj : k = j
  · subst hj; simpa using h
  · simp [Fin.val_ne_of_ne hj]

theorem rewrites_setRoute_irq (k : Fin 4) (irq : Byte) (b : Block) :
    Rewrites [.routeIrq] b (setRoute k { b.irqRoute[k] with irq := irq } b) where
  same f hf := by
    cases f
    case routeLevel => exact proj_set IrqRoute.level b.irqRoute k _ rfl
    all_goals simp_all [sameField]
  keeps hi := { hi with }

theorem rewrites_setRoute_level (k : Fin 4) (level : Bool) (b : Block) :
    Rewrites [.routeLevel] b (setRoute k { b.irqRoute[k] with level := level } b) where
  same f hf := by
    cases f
    case routeIrq => exact proj_set IrqRoute.irq b.irqRoute k _ rfl
    all_goals simp_all [sameField]
  keeps hi := { hi with }

theorem rewrites_setMirqEntry_enabled (m : Fin 3) (b : Block) :
    Rewrites [.mirqEnabled] b (setMirqEntry m { b.mirq[m] with enabled := true } b) where
  same f hf := by
    cases f
    case mirqIrq => exact proj_set MirqEntry.irq b.mirq m _ rfl
    all_goals simp_all [sameField]
  keeps hi := { hi with }

theorem rewrites_setMirqEntry_irq (m : Fin 3) (irq : Byte) (b : Block) :
    Rewrites [.mirqIrq] b (setMirqEntry m { b.mirq[m] with irq := irq } b) where
  same f hf := by
    cases f
    case mirqEnabled => exact proj_set MirqEntry.enabled b.mirq m _ rfl
    all_goals simp_all [sameField]
  keeps hi := { hi with }

/-- The fixed bits of the ELCR registers are clear in what a write leaves (43_elcr_trc.md R241). -/
theorem elcr_masks (v : Byte) : (v &&& 0xF8) &&& 0x07 = 0 ∧ (v &&& 0xDE) &&& 0x21 = 0 := by
  revert v; decide

theorem rewrites_writeElcr (reg : BitVec 1) (v : Byte) (b : Block) :
    Rewrites (portWrites (elcrPort reg)) b (writeElcr reg v b) := by
  rw [portWrites_elcr, writeElcr]
  by_cases hr : reg = 0
  · rw [if_pos hr, if_pos hr]
    refine ⟨fun f hf => ?_, fun hi => { hi with elcr_fixed := ⟨(elcr_masks v).1, hi.elcr_fixed.2⟩ }⟩
    cases f <;> simp_all [sameField]
  · rw [if_neg hr, if_neg hr]
    refine ⟨fun f hf => ?_, fun hi => { hi with elcr_fixed := ⟨hi.elcr_fixed.1, (elcr_masks v).2⟩ }⟩
    cases f <;> simp_all [sameField]

/-- A Type 2 machine is not a Type 1 machine: what 10_state.md R41 (f) asks of those it need not meet. -/
theorem type1_plain_of_t2 {b : Block} (hm : b.mech = .t2) {P : Prop} : b.mech = .t1 → P := by
  rw [hm]; exact nofun

theorem rewrites_writeCse (v : Byte) {b : Block} (hp : t2Ports b = true) :
    Rewrites [.t2Func, .t2Key] b (writeCse v b) where
  same f hf := by cases f <;> simp_all [sameField, writeCse]
  keeps hi := by
    obtain ⟨-, hm, hpmc⟩ := (t2Ports_iff b).1 hp
    exact { hi with
      type1_plain := type1_plain_of_t2 hm
      pmc_closes := fun h => absurd (hpmc.symm.trans h) Bool.false_ne_true }

theorem rewrites_t2Bus (v : Byte) {b : Block} (hp : t2Ports b = true) : Rewrites [.t2Bus] b { b with t2Bus := v } where
  same f hf := by cases f <;> simp_all [sameField]
  keeps hi := by
    obtain ⟨-, hm, -⟩ := (t2Ports_iff b).1 hp
    exact { hi with type1_plain := type1_plain_of_t2 hm }

theorem rewrites_writePmc (v : Byte) {b : Block} (hp : pmcPresent b = true) : Rewrites pmcWrites b (writePmc v b) where
  same f hf := by cases f <;> simp_all [sameField, pmcWrites, latchFields, writePmc]
  keeps hi := by
    obtain ⟨-, hm⟩ := (pmcPresent_iff b).1 hp
    exact { hi with
      type1_plain := type1_plain_of_t2 hm
      pmc_closes := fun _ => rfl }

theorem rewrites_subsystemReset (s : State) : Rewrites resetWrites s.blk (subsystemReset s).blk := by
  rw [subsystemReset_blk]
  refine ⟨fun f hf => ?_, fun hi => { hi with
    hold_width := fun q => by simp
    elcr_fixed := ⟨BitVec.zero_and, BitVec.zero_and⟩
    type1_plain := fun _ => ⟨rfl, rfl, rfl, rfl⟩
    pmc_closes := fun _ => rfl }⟩
  cases f <;> simp_all [sameField, resetWrites, pmcWrites, latchFields]

/-- A hold mask of 33 bits set on one line (10_state.md R41 (d)). -/
theorem rewrites_setHold (q : Fin 16) {m : HoldMask} {b : Block} (hm : b.hold[q].toNat < 2 ^ 33 → m.toNat < 2 ^ 33) :
    Rewrites [.hold] b (setHold q m b) where
  same f hf := by cases f <;> simp_all [sameField]
  keeps hi := { hi with
    hold_width := fun p => by
      by_cases hp : q = p
      · subst hp
        rw [setHold_hold_same]
        exact hm (hi.hold_width q)
      · simpa [Vector.getElem_set, Fin.val_ne_of_ne hp] using hi.hold_width p }

/-- The block after `INIT` meets the invariants (10_state.md R45). -/
theorem invariant_initialBlock (params : Params) (mech : Mech) (noSteer : Bool) :
    Invariant (initialBlock params mech noSteer) where
  nslots_le := Nat.zero_le 32
  mapped d i h := by simp [initialBlock] at h
  bound_registered i h := by simp [initialBlock, Slot.empty] at h
  hold_width q := by simp [initialBlock]
  elcr_fixed := ⟨BitVec.zero_and, BitVec.zero_and⟩
  type1_plain _ := ⟨rfl, rfl, rfl, rfl⟩
  pmc_closes _ := rfl
  registered_id i h := absurd h (Nat.not_lt_zero _)
  unregistered_empty i _ := by simp [initialBlock]

/-- `INIT` may change every field (10_state.md R45). -/
theorem rewrites_initialBlock (type : Byte) (params : Params) (mech : Mech) (noSteer : Bool) (b : Block) :
    Rewrites (writers (.init type)) b (initialBlock params mech noSteer) where
  same f hf := by
    cases f <;> simp [writers, trcWrites, resetWrites, pmcWrites, latchFields] at hf
  keeps _ := invariant_initialBlock params mech noSteer

/-- What `REGISTER_SLOT`'s operands give: a descriptor with the device number as its id, unbound. -/
theorem slotOf_eq_some {device cls inta intb intc intd : Byte} {d : Fin 32} {slot : Slot}
    (h : slotOf device cls inta intb intc intd = some (d, slot)) : slot.id.toNat = d.val ∧ slot.dev = none := by
  unfold slotOf at h
  split at h
  next hd _ _ _ _ _ =>
    cases h
    exact ⟨(deviceNumber_eq_some device d).1 hd, rfl⟩
  · cases h

theorem rewrites_appendSlot {b : Block} (h : b.nslots < 32) {d : Fin 32} {slot : Slot} (hid : slot.id.toNat = d.val)
    (hdev : slot.dev = none) :
    Rewrites [.slotId, .slotClass, .slotRoute, .slotBinding, .nslots, .dev2slot] b
      (appendSlot ⟨b.nslots, h⟩ d slot b) where
  same f hf := by cases f <;> simp_all [sameField]
  keeps hi := by
    have slots (j : Fin 32) : (appendSlot ⟨b.nslots, h⟩ d slot b).slots[j] =
        if b.nslots = j.val then slot else b.slots[j] := by
      simp [Vector.getElem_set]
    have d2s (e : Fin 32) : (appendSlot ⟨b.nslots, h⟩ d slot b).dev2slot[e] =
        if d.val = e.val then some ⟨b.nslots, h⟩ else b.dev2slot[e] := by
      simp [Vector.getElem_set]
    exact { hi with
      nslots_le := h
      mapped := fun e j hj => by
        rw [d2s] at hj
        rw [slots, appendSlot_nslots]
        split_ifs at hj with he
        · cases hj
          exact ⟨Nat.lt_succ_self _, by rw [if_pos rfl, hid, he]⟩
        · obtain ⟨hlt, hj⟩ := hi.mapped e j hj
          exact ⟨by simp; omega, by rw [if_neg (by omega), hj]⟩
      bound_registered := fun j hj => by
        rw [slots] at hj
        rw [appendSlot_nslots]
        split_ifs at hj with he
        · simp [hdev] at hj
        · exact Nat.lt_succ_of_lt (hi.bound_registered j hj)
      registered_id := fun j hj => by
        rw [slots]
        split_ifs with he
        · omega
        · exact hi.registered_id j (by simp at hj; omega)
      unregistered_empty := fun j hj => by
        simp at hj
        rw [slots, if_neg (by omega)]
        exact hi.unregistered_empty j (by omega) }

/-- Binding a slot leaves every device number. -/
theorem bindSlot_id (i : Fin 32) (hd : Handle) (b : Block) (j : Fin 32) :
    (bindSlot i hd b).slots[j].id = b.slots[j].id :=
  (proj_set Slot.id b.slots i { b.slots[i] with dev := some hd } rfl j).symm

theorem rewrites_bindSlot {b : Block} {i : Fin 32} (h : i.val < b.nslots) (hd : Handle) :
    Rewrites [.slotBinding] b (bindSlot i hd b) := by
  have other (j : Fin 32) (hj : j.val ≠ i.val) : (bindSlot i hd b).slots[j] = b.slots[j] := by
    simp [hj.symm]
  refine ⟨fun f hf => ?_, fun hi => { hi with
    mapped := fun d j hj => ?_
    bound_registered := fun j hj => ?_
    registered_id := fun j hj => ?_
    unregistered_empty := fun j hj => ?_ }⟩
  · cases f
    case slotId => exact fun j => (bindSlot_id i hd b j).symm
    case slotClass => exact proj_set Slot.cls b.slots i _ rfl
    case slotRoute => exact proj_set Slot.route b.slots i _ rfl
    all_goals simp_all [sameField]
  · rw [bindSlot_id]
    exact hi.mapped d j hj
  · by_cases he : j.val = i.val
    · rw [he]; exact h
    · rw [other j he] at hj
      exact hi.bound_registered j hj
  · rw [bindSlot_id]
    exact hi.registered_id j hj
  · rw [bindSlot_nslots] at hj
    rw [other j (by omega)]
    exact hi.unregistered_empty j hj

end Sys2Proof.Machine
end

section
/-! SUPPORT. What an operation may do to the state: the fields it may change, the kinds of event it may emit, what it
may take of the environment (00_scope.md R9, R10). -/

namespace Sys2Proof.Machine

open Sys2Proof

/-- From `s` to `s'` at most these fields of the block changed, with the invariants kept; only events of these kinds
were emitted; each device read took one answer, at most `n` of them, and at most `m` mode bits were read; nothing else
changed. -/
structure Effect (fs : List Field) (ks : List EventKind) (n m : Nat) (s s' : State) : Prop where
  blk : Rewrites fs s.blk s'.blk
  params : s'.params = s.params
  pending : s'.pending = s.pending
  scripts : s'.env.devScript = s.env.devScript ∧ s'.env.ltimScript = s.env.ltimScript
  events : ∃ es : List Event, s'.trace = s.trace ++ es.map .event ∧ (∀ e ∈ es, e.kind ∈ ks) ∧
    s'.env.devReads = s.env.devReads + es.countP isDevReadCall ∧ es.countP isDevReadCall ≤ n
  ltimReads : s.env.ltimReads ≤ s'.env.ltimReads ∧ s'.env.ltimReads ≤ s.env.ltimReads + m

section
variable {fs fs' : List Field} {ks ks' : List EventKind} {n n' m m' : Nat} {s s' s'' : State}

theorem Effect.refl (fs : List Field) (ks : List EventKind) (s : State) : Effect fs ks 0 0 s s :=
  ⟨.refl fs s.blk, rfl, rfl, ⟨rfl, rfl⟩, ⟨[], by simp⟩, by simp⟩

/-- A step that may do less is one that may do more. -/
theorem Effect.mono (h : Effect fs ks n m s s') (hf : fs ⊆ fs') (hk : ks ⊆ ks') (hn : n ≤ n') (hm : m ≤ m') :
    Effect fs' ks' n' m' s s' := by
  obtain ⟨es, ht, hes, hr, hle⟩ := h.events
  exact { h with
    blk := h.blk.mono hf
    events := ⟨es, ht, fun e he => hk (hes e he), hr, by omega⟩
    ltimReads := ⟨h.ltimReads.1, by have := h.ltimReads.2; omega⟩ }

/-- One after the other. -/
theorem Effect.trans (h : Effect fs ks n m s s') (h' : Effect fs' ks' n' m' s' s'') :
    Effect (fs ++ fs') (ks ++ ks') (n + n') (m + m') s s'' := by
  obtain ⟨es, ht, hes, hr, hle⟩ := h.events
  obtain ⟨es', ht', hes', hr', hle'⟩ := h'.events
  obtain ⟨hl, hu⟩ := h.ltimReads
  obtain ⟨hl', hu'⟩ := h'.ltimReads
  refine ⟨(h.blk.mono (List.subset_append_left fs fs')).trans (h'.blk.mono (List.subset_append_right fs fs')),
    h'.params.trans h.params, h'.pending.trans h.pending,
    ⟨h'.scripts.1.trans h.scripts.1, h'.scripts.2.trans h.scripts.2⟩, ⟨es ++ es', ?_, ?_, ?_, ?_⟩, by omega, by omega⟩
  · rw [ht', ht, List.map_append, List.append_assoc]
  · exact List.forall_mem_append.2
      ⟨fun e he => List.mem_append_left ks' (hes e he), fun e he => List.mem_append_right ks (hes' e he)⟩
  · rw [hr', hr, List.countP_append, Nat.add_assoc]
  · rw [List.countP_append]; omega

/-- The block gets another value, and nothing is emitted. -/
theorem Effect.withBlock {b : Block} (h : Rewrites fs s.blk b) : Effect fs [] 0 0 s (withBlock b s) :=
  ⟨h, rfl, rfl, ⟨rfl, rfl⟩, ⟨[], by simp⟩, by simp⟩

/-- A device-read event is one of that kind. -/
theorem isDevReadCall_iff (e : Event) : isDevReadCall e = true ↔ e.kind = .devReadCall := by
  cases e <;> simp [isDevReadCall, Event.kind]

/-- Events other than device reads. -/
theorem Effect.emitAll (es : List Event) (hk : ∀ e ∈ es, e.kind ∈ ks) (hd : .devReadCall ∉ ks) (s : State) :
    Effect [] ks 0 0 s (emitAll es s) := by
  have none : es.countP isDevReadCall = 0 := by
    rw [List.countP_eq_zero]
    exact fun e he hc => hd ((isDevReadCall_iff e).1 hc ▸ hk e he)
  exact ⟨.refl _ s.blk, rfl, rfl, ⟨rfl, rfl⟩, ⟨es, rfl, hk, by rw [none]; rfl, by omega⟩, by simp⟩

/-- An event other than a device read. -/
theorem Effect.emit {e : Event} {k : EventKind} (hk : e.kind = k) (hd : k ≠ .devReadCall) (s : State) :
    Effect [] [k] 0 0 s (emit e s) :=
  .emitAll [e] (by simpa using hk) (by simpa using hd.symm) s

/-- Device reads. -/
theorem OnlyCalls.effect (h : OnlyCalls n s s') : Effect [] [.devReadCall] n 0 s s' := by
  obtain ⟨es, hn, hk, rfl⟩ := h
  have all : es.countP isDevReadCall = es.length := by
    rw [List.countP_eq_length]
    exact fun e he => (isDevReadCall_iff e).2 (hk e he)
  exact ⟨.refl _ s.blk, rfl, rfl, ⟨rfl, rfl⟩, ⟨es, rfl, fun e he => by simp [hk e he], by rw [all]; rfl, by omega⟩,
    by simp [called]⟩

end

end Sys2Proof.Machine
end

section
/-! SUPPORT. What the byte writes, and so the lanes of a wide write, may do (10_state.md R35; 43_elcr_trc.md R247). -/

namespace Sys2Proof.Machine

open Sys2Proof

/-- The kinds of event a byte write of a register may emit. -/
def regEmits : ByteReg → List EventKind
  | .elcr _ => []
  | .cse => []
  | .trc => [.strobe, .picClear]
  | .bus => []
  | .pmc => []
  | .configData _ => [.devWrite]
  | .window _ _ => [.devWrite]

/-- The kinds of event a byte write at a port may emit. -/
def portEmits (p : Port) : List EventKind := (byteReg p).elim [] regEmits

theorem subsystemReset_effect (s : State) : Effect resetWrites [.picClear] 0 0 s (subsystemReset s) :=
  (Effect.emitAll (ks := [.picClear]) ((heldLines s.blk).map .picClear) (by simp [Event.kind]) (by decide) s).trans
    (.withBlock (rewrites_subsystemReset s))

theorem cascade_effect (s : State) : Effect resetWrites [.strobe, .picClear] 0 0 s (cascade s) :=
  (((Effect.emitAll (ks := [.strobe]) [.strobe .dmaReset, .strobe .deviceResetAll, .strobe .cpuAltResetClear]
    (by simp [Event.kind]) (by decide) s).trans (subsystemReset_effect _)).trans
      (.emitAll (ks := [.strobe]) [.strobe .kbcReset, .strobe .a20Reset, .strobe .mmuFlush] (by simp [Event.kind])
        (by decide) _)).mono (by decide) (by decide) le_rfl le_rfl

theorem writeTrc_effect (v : Byte) (s : State) : Effect trcWrites [.strobe, .picClear] 0 0 s (writeTrc v s) := by
  have store (s' : State) : Effect [.trc] [] 0 0 s' (withBlock { s'.blk with trc := trcStored v } s') :=
    .withBlock (rewrites_trc _ s'.blk)
  have cpu (s' : State) : Effect [] [.strobe] 0 0 s' (emit (.strobe .cpuReset) s') :=
    .emit (k := .strobe) rfl (by decide) s'
  obtain ⟨-, h⟩ | ⟨-, -, h⟩ | ⟨-, -, h⟩ := writeTrc_cases v s <;> rw [h]
  · exact (store s).mono (by decide) (by decide) le_rfl le_rfl
  · exact ((cpu s).trans (store _)).mono (by decide) (by decide) le_rfl le_rfl
  · exact (((cascade_effect s).trans (cpu _)).trans (store _)).mono (by decide) (by decide) le_rfl le_rfl

theorem cfgWrite8_effect (dev : BitVec 5) (func : BitVec 3) (addr v : Byte) (s : State) :
    Effect [] [.devWrite] 0 0 s (cfgWrite8 dev func addr v s) := by
  obtain h | ⟨hd, h⟩ := cfgWrite8_state dev func addr v s <;> rw [h]
  · exact .refl _ _ s
  · exact .emit (k := .devWrite) rfl (by decide) s

/-- No register of the block that a write changes stands at a port from 0xC000 on. -/
theorem portWrites_of_ge {p : Port} (h : 0xC000 ≤ p.toNat) : portWrites p = [] := by
  simp only [portWrites]
  iterate 6 rw [if_neg (by rintro rfl; revert h; decide)]

/-- From 0xC000 on there are only window registers. -/
theorem portEmits_of_ge {p : Port} (h : 0xC000 ≤ p.toNat) : portEmits p ⊆ [.devWrite] := by
  obtain ⟨r, rfl⟩ | hp := port_cases p
  · rw [portEmits, byteReg_regPort]
    cases r with
    | window dev reg => exact List.Subset.refl _
    | elcr reg => exact List.nil_subset _
    | configData lane => exact List.Subset.refl _
    | trc => exact absurd h (by decide)
    | _ => exact List.nil_subset _
  · rw [portEmits, hp]
    exact List.nil_subset _

/-- Whatever stands at a port. -/
theorem portEmits_subset (p : Port) : portEmits p ⊆ [.devWrite, .strobe, .picClear] := by
  rw [portEmits]
  cases byteReg p with
  | none => exact List.nil_subset _
  | some r => cases r <;> simp [regEmits]

/-- The write of a byte register changes what its port may change and emits what it may emit. -/
theorem writeByte_effect (r : ByteReg) (v : Byte) (s : State) :
    Effect (portWrites (regPort r)) (regEmits r) 0 0 s (writeByte r v s) := by
  by_cases hp : isPresent s.blk r = true
  · rw [writeByte_of_isPresent v hp]
    cases r with
    | elcr reg => exact .withBlock (rewrites_writeElcr reg v s.blk)
    | cse => exact .withBlock (rewrites_writeCse v hp)
    | trc => exact writeTrc_effect v s
    | bus => exact .withBlock (rewrites_t2Bus v hp)
    | pmc => exact .withBlock (rewrites_writePmc v hp)
    | configData lane =>
      rw [writeReg, writeConfigData]
      split
      · exact (cfgWrite8_effect _ _ _ v s).mono (List.nil_subset _) (List.Subset.refl _) le_rfl le_rfl
      · exact .refl _ _ s
    | window dev reg =>
      rw [writeReg, writeWindow]
      split
      · exact (cfgWrite8_effect _ _ _ v s).mono (List.nil_subset _) (List.Subset.refl _) le_rfl le_rfl
      · exact .refl _ _ s
  · rw [writeByte_of_absent v hp]
    exact .refl _ _ s

theorem ioWrite8_effect (p : Port) (v : Byte) (s : State) :
    Effect (portWrites p) (portEmits p) 0 0 s (ioWrite8 p v s) := by
  obtain ⟨r, rfl⟩ | hp := port_cases p
  · rw [ioWrite8_regPort, portEmits, byteReg_regPort]
    exact writeByte_effect r v s
  · rw [ioWrite8_of_none hp]
    exact .refl _ _ s

theorem writeLanes16_effect (p : Port) (v : Word) (s : State) :
    Effect (portWrites p ++ portWrites (p + 1)) (portEmits p ++ portEmits (p + 1)) 0 0 s (writeLanes16 p v s) :=
  (ioWrite8_effect p _ s).trans (ioWrite8_effect (p + 1) _ _)

theorem writeLanes32_effect (p : Port) (v : Dword) (s : State) :
    Effect (portWrites p ++ portWrites (p + 1) ++ (portWrites (p + 2) ++ portWrites (p + 2 + 1)))
      (portEmits p ++ portEmits (p + 1) ++ (portEmits (p + 2) ++ portEmits (p + 2 + 1))) 0 0 s (writeLanes32 p v s) :=
  (writeLanes16_effect p _ s).trans (writeLanes16_effect (p + 2) _ _)

end Sys2Proof.Machine
end

section
/-! SUPPORT. What the router's shared operations may do: the level query, `Resolve`, the assert and clear algorithms
(42_interrupt_router.md R203, R206, R207, R212). -/

namespace Sys2Proof.Machine

open Sys2Proof

theorem picLtim_effect (half : PicHalf) (s : State) : Effect [] [] 0 1 s (picLtim half s).2 :=
  ⟨.refl _ s.blk, rfl, rfl, ⟨rfl, rfl⟩, ⟨[], by simp, by simp, rfl, by simp⟩, Nat.le_succ _, le_rfl⟩

theorem isLevel_effect (q : Fin 16) (s : State) : Effect [] [] 0 1 s (isLevel q s).2 := by
  have quiet : Effect [] [] 0 1 s s := (Effect.refl [] [] s).mono (by simp) (by simp) le_rfl (Nat.zero_le 1)
  unfold isLevel
  split
  · exact quiet
  · split
    · exact quiet
    · exact picLtim_effect _ s

theorem noSteerLevel_effect (q : Fin 16) (s : State) : Effect [] [] 0 1 s (noSteerLevel q s).2 := by
  unfold noSteerLevel
  split
  · exact (Effect.refl [] [] s).mono (by simp) (by simp) le_rfl (Nat.zero_le 1)
  · exact isLevel_effect q s

/-- Asking a card for its IRQ number is at most one device read (42_interrupt_router.md R205). -/
theorem noSteerIrq_calls (i : Fin 32) (s : State) : OnlyCalls 1 s (noSteerIrq i s).2 := by
  unfold noSteerIrq
  split
  · exact .refl 1 s
  next h _ => exact ⟨[_], by simp, by simp [Event.kind], devRead_eq_called h 0 0x3C s⟩

theorem resolveNoSteer_effect (i : Fin 32) (s : State) : Effect [] [.devReadCall] 1 1 s (resolveNoSteer i s).2 := by
  have asked := (noSteerIrq_calls i s).effect
  unfold resolveNoSteer
  dsimp only
  split
  · exact asked.mono (by simp) (by simp) le_rfl (Nat.zero_le 1)
  · exact asked.trans (noSteerLevel_effect _ _)

theorem resolve_effect (card pin : Byte) (s : State) : Effect [] [.devReadCall] 1 1 s (resolve card pin s).2 := by
  obtain h | ⟨i, h⟩ := resolve_state card pin s <;> rw [h]
  · exact (Effect.refl [] [] s).mono (by simp) (by simp) (Nat.zero_le 1) (Nat.zero_le 1)
  · exact resolveNoSteer_effect i s

/-- The bit of a source below 33 is a mask of 33 bits (10_state.md R41 (d)). -/
theorem bit64_lt {k : Nat} (hk : k < 33) : (bit64 k).toNat < 2 ^ 33 := by
  refine lt_of_le_of_lt ?_ (Nat.pow_lt_pow_right (by omega) hk)
  rw [show bit64 k = 1#64 <<< k from rfl, BitVec.toNat_shiftLeft, Nat.shiftLeft_eq]
  exact (Nat.mod_le _ _).trans (by simp)

/-- The assert algorithm, for a source of 30_encoding.md R109. -/
theorem assertLine_effect (q : Fin 16) (level : Bool) {k : Nat} (hk : k < 33) (s : State) :
    Effect [.hold] [.picEdge, .picLevel] 0 0 s (assertLine q level (bit64 k) s) := by
  obtain ⟨-, h⟩ | ⟨-, -, h⟩ | ⟨-, -, -, h⟩ | ⟨-, -, h⟩ := assertLine_cases q level (bit64 k) s <;> rw [h]
  · exact (Effect.emit (k := .picEdge) rfl (by decide) s).mono (by simp) (by simp) le_rfl le_rfl
  · exact .refl _ _ s
  · refine (Effect.withBlock (rewrites_setHold q fun hm => ?_)).mono (by simp) (by simp) le_rfl le_rfl
    rw [BitVec.toNat_or]
    exact Nat.or_lt_two_pow hm (bit64_lt hk)
  · exact ((Effect.emit (k := .picLevel) rfl (by decide) s).trans
      (.withBlock (rewrites_setHold q fun _ => bit64_lt hk))).mono (by simp) (by simp) le_rfl le_rfl

/-- The clear algorithm. -/
theorem releaseLine_effect (q : Fin 16) (level : Bool) (bit : HoldMask) (s : State) :
    Effect [.hold] [.picClear] 0 0 s (releaseLine q level bit s) := by
  have clear (s' : State) : Effect [] [.picClear] 0 0 s' (emit (.picClear q) s') :=
    .emit (k := .picClear) rfl (by decide) s'
  obtain ⟨-, h⟩ | ⟨-, -, h⟩ | ⟨-, -, -, h⟩ | ⟨-, -, -, h⟩ := releaseLine_cases q level bit s <;> rw [h]
  · exact (clear s).mono (by simp) (by simp) le_rfl le_rfl
  · exact .refl _ _ s
  · refine (Effect.withBlock (rewrites_setHold q fun hm => ?_)).mono (by simp) (by simp) le_rfl le_rfl
    rw [BitVec.toNat_and]
    exact lt_of_le_of_lt Nat.and_le_left hm
  · exact ((Effect.withBlock (rewrites_setHold q fun _ => by simp)).trans (clear _)).mono (by simp) (by simp) le_rfl
      le_rfl

end Sys2Proof.Machine
end

section
/-! SUPPORT. Outcomes that are a completed operation with a bounded effect, and the shapes in which the meanings reach
one. -/

namespace Sys2Proof.Machine

open Sys2Proof

/-- The outcome is a completed operation, before whose result at most these fields changed and only events of these
kinds were emitted, with at most four device reads and one mode bit. -/
def Performs (fs : List Field) (ks : List EventKind) (s : State) (o : StepOutcome) : Prop :=
  ∃ (r : Result) (s' : State), o = complete r s' ∧ Effect fs ks 4 1 s s'

section
variable {fs fs' : List Field} {ks ks' : List EventKind} {n m : Nat} {s s' : State} {o o' : StepOutcome}

theorem Performs.complete (h : Effect fs ks n m s s') (r : Result) (hf : fs ⊆ fs' := by simp)
    (hk : ks ⊆ ks' := by simp) (hn : n ≤ 4 := by omega) (hm : m ≤ 1 := by omega) :
    Performs fs' ks' s (complete r s') :=
  ⟨r, s', rfl, h.mono hf hk hn hm⟩

/-- Completing at once. -/
theorem Performs.atOnce (r : Result) (s : State) : Performs fs ks s (Machine.complete r s) :=
  .complete (.refl [] [] s) r

/-- Completing with another value of the block. -/
theorem Performs.withBlock {b : Block} (h : Rewrites fs s.blk b) (r : Result) (hf : fs ⊆ fs' := by simp) :
    Performs fs' ks s (Machine.complete r (withBlock b s)) :=
  .complete (.withBlock h) r hf

/-- Both branches of a test. -/
theorem Performs.ite {c : Prop} [Decidable c] (h : Performs fs ks s o) (h' : Performs fs ks s o') :
    Performs fs ks s (if c then o else o') := by
  split
  · exact h
  · exact h'

/-- Refusing an operation (00_scope.md R11). -/
theorem Performs.refuse (s : State) : Performs fs ks s (refuse s) := .atOnce .none s

/-- An operation behind a test that refuses it otherwise. -/
theorem Performs.orRefuse {c : Prop} [Decidable c] (h : Performs fs ks s o) :
    Performs fs ks s (if c then o else Machine.refuse s) := h.ite (.refuse s)

end

/-- A read of a byte register of a device. -/
theorem performs_complete8 {fs : List Field} (r : ByteReg) (s : State) :
    Performs fs [.devReadCall] s (complete8 (readByte r s)) :=
  .complete (readByte_calls r s).effect _

theorem performs_readLanes16 {fs : List Field} (p : Port) (s : State) :
    Performs fs [.devReadCall] s (complete16 (readLanes16 p s)) :=
  .complete (readLanes16_calls p s).effect _

theorem performs_readLanes32 {fs : List Field} (p : Port) (s : State) :
    Performs fs [.devReadCall] s (complete32 (readLanes32 p s)) :=
  .complete (readLanes32_calls p s).effect _

/-- A byte write, where the port of the register allows it. -/
theorem performs_writeByte {fs : List Field} (r : ByteReg) (v : Byte) (s : State) (hf : portWrites (regPort r) ⊆ fs) :
    Performs fs (regEmits r) s (complete .none (writeByte r v s)) :=
  .complete (writeByte_effect r v s) _ hf

/-- A two-lane write, where its ports allow it. -/
theorem performs_writeLanes16 {fs : List Field} {ks : List EventKind} (p : Port) (v : Word) (s : State)
    (hf : portWrites p ++ portWrites (p + 1) ⊆ fs) (hk : portEmits p ++ portEmits (p + 1) ⊆ ks) :
    Performs fs ks s (complete .none (writeLanes16 p v s)) :=
  .complete (writeLanes16_effect p v s) _ hf hk

/-- A four-lane write, where its ports allow it. -/
theorem performs_writeLanes32 {fs : List Field} {ks : List EventKind} (p : Port) (v : Dword) (s : State)
    (hf : portWrites p ++ portWrites (p + 1) ++ (portWrites (p + 2) ++ portWrites (p + 2 + 1)) ⊆ fs)
    (hk : portEmits p ++ portEmits (p + 1) ++ (portEmits (p + 2) ++ portEmits (p + 2 + 1)) ⊆ ks) :
    Performs fs ks s (complete .none (writeLanes32 p v s)) :=
  .complete (writeLanes32_effect p v s) _ hf hk

/-- The registers that are the block's own are read without a call. -/
theorem ioRead8_own {r : ByteReg} (h : r ∈ [.cse, .trc, .bus, .pmc]) (s : State) : (ioRead8 (regPort r) s).2 = s := by
  rw [ioRead8_regPort, readByte]
  split
  · cases r <;> simp at h <;> rfl
  · rfl

/-- The lanes of CONFIG_ADDRESS are registers of the block. -/
theorem readLanes32_configAddress (s : State) : (readLanes32 0x0CF8 s).2 = s := by
  have cse : (ioRead8 0x0CF8 s).2 = s := ioRead8_own (r := .cse) (by decide) s
  have trc : (ioRead8 (0x0CF8 + 1) s).2 = s := ioRead8_own (r := .trc) (by decide) s
  have bus : (ioRead8 (0x0CF8 + 2) s).2 = s := ioRead8_own (r := .bus) (by decide) s
  have pmc : (ioRead8 (0x0CF8 + 2 + 1) s).2 = s := ioRead8_own (r := .pmc) (by decide) s
  rw [readLanes32_state, readLanes16_state, readLanes16_state, cse, trc, bus, pmc]

/-- The lanes of CONFIG_DATA and past it write no register of the block (10_state.md R35). -/
theorem configData_lanes (lane : BitVec 2) :
    (portWrites (configDataPort lane) ++ portWrites (configDataPort lane + 1) ++
      (portWrites (configDataPort lane + 2) ++ portWrites (configDataPort lane + 2 + 1)) = []) ∧
    portEmits (configDataPort lane) ++ portEmits (configDataPort lane + 1) ++
      (portEmits (configDataPort lane + 2) ++ portEmits (configDataPort lane + 2 + 1)) ⊆ [.devWrite] := by
  revert lane; decide

/-- The lanes of a window access stay from 0xC000 on. -/
theorem window_lane_ge (dev : BitVec 4) (reg : Byte) {k : Port} (hk : k.toNat < 4) :
    0xC000 ≤ (windowPort dev reg + k).toNat := by
  have hn := windowPort_toNat dev reg
  have hd := dev.isLt
  have hr := reg.isLt
  rw [BitVec.toNat_add]
  omega

end Sys2Proof.Machine
end

section
/-! SUPPORT. Every operation completes with its own effect: the fields it writes, the events it emits (10_state.md
"written by"; 00_scope.md R10). -/

namespace Sys2Proof.Machine

open Sys2Proof

/-- No port responds before `INIT` (10_state.md R47). -/
theorem silent_of_not_initialised {b : Block} (h : ¬ b.initialised = true) (p : Port) : Silent b p :=
  silent_of_not_claimed (not_claimsByte_of_not_initialised (Bool.eq_false_iff.2 h) p.toNat)

theorem readLanes16_of_not_initialised {s : State} (h : ¬ s.blk.initialised = true) (p : Port) :
    readLanes16 p s = (0xFFFF, s) :=
  have silent := silent_of_not_initialised h
  readLanes16_of_silent (silent _) (silent _)

theorem readLanes32_of_not_initialised {s : State} (h : ¬ s.blk.initialised = true) (p : Port) :
    readLanes32 p s = (0xFFFFFFFF, s) :=
  have silent := silent_of_not_initialised h
  readLanes32_of_silent (silent _) (silent _) (silent _) (silent _)

theorem writeLanes16_of_not_initialised {s : State} (h : ¬ s.blk.initialised = true) (p : Port) (v : Word) :
    writeLanes16 p v s = s :=
  have silent := silent_of_not_initialised h
  writeLanes16_of_silent (silent _) (silent _) v

theorem writeLanes32_of_not_initialised {s : State} (h : ¬ s.blk.initialised = true) (p : Port) (v : Dword) :
    writeLanes32 p v s = s :=
  have silent := silent_of_not_initialised h
  writeLanes32_of_silent (silent _) (silent _) (silent _) (silent _) v

/-- The registers that are the block's own are read without an event. -/
theorem performs_readOwn {fs : List Field} {ks : List EventKind} {r : ByteReg} (h : r ∈ [.cse, .trc, .bus, .pmc])
    (s : State) : Performs fs ks s (complete8 (readByte r s)) := by
  have own := ioRead8_own h s
  rw [ioRead8_regPort] at own
  rw [complete8, own]
  exact .atOnce _ s

/-- The ELCR registers are read without an event. -/
theorem performs_readElcr {fs : List Field} {ks : List EventKind} (reg : BitVec 1) (s : State) :
    Performs fs ks s (complete8 (readByte (.elcr reg) s)) := by
  by_cases hp : isPresent s.blk (.elcr reg) = true
  · rw [readByte_of_isPresent hp]
    exact .atOnce _ s
  · rw [readByte_of_absent hp]
    exact .atOnce _ s

section
variable {fs : List Field} {ks : List EventKind} (s : State)

/-- The wide rows of TRC do nothing, native or decomposed before `INIT` (43_elcr_trc.md R245, R246). -/
theorem performs_trcRd16 : Performs fs ks s (execTrcRd16 s) := by
  unfold execTrcRd16
  split
  · exact .atOnce _ s
  next h => rw [complete16, readLanes16_of_not_initialised h]; exact .atOnce _ s

theorem performs_trcRd32 : Performs fs ks s (execTrcRd32 s) := by
  unfold execTrcRd32
  split
  · exact .atOnce _ s
  next h => rw [complete32, readLanes32_of_not_initialised h]; exact .atOnce _ s

theorem performs_trcWr16 (v : Word) : Performs fs ks s (execTrcWr16 v s) := by
  unfold execTrcWr16
  split
  · exact .atOnce _ s
  next h => rw [writeLanes16_of_not_initialised h]; exact .atOnce _ s

theorem performs_trcWr32 (v : Dword) : Performs fs ks s (execTrcWr32 v s) := by
  unfold execTrcWr32
  split
  · exact .atOnce _ s
  next h => rw [writeLanes32_of_not_initialised h]; exact .atOnce _ s

theorem performs_t1AddrRd : Performs fs ks s (execT1AddrRd s) := by
  refine .ite (.atOnce _ s) ?_
  rw [complete32, readLanes32_configAddress]
  exact .atOnce _ s

end

theorem performs_t1AddrWr (v : Dword) (s : State) : Performs trcWrites [.strobe, .picClear] s (execT1AddrWr v s) :=
  (Performs.withBlock (rewrites_latchAddress v s.blk) _ (by decide)).ite
    (performs_writeLanes32 0x0CF8 v s (by decide) (by decide))

/-- A wide write of CONFIG_DATA calls devices only (40_config_decoder.md R140). -/
theorem performs_t1DataWr16 (lane : BitVec 2) (v : Word) (s : State) :
    Performs [] [.devWrite] s (execT1DataWr16 lane v s) := by
  obtain ⟨hf, hk⟩ := configData_lanes lane
  obtain ⟨hf, -⟩ := List.append_eq_nil_iff.1 hf
  obtain ⟨hk, -⟩ := List.append_subset.1 hk
  exact performs_writeLanes16 _ v s (List.subset_nil.2 hf) hk

theorem performs_t1DataWr32 (lane : BitVec 2) (v : Dword) (s : State) :
    Performs [] [.devWrite] s (execT1DataWr32 lane v s) := by
  obtain ⟨hf, hk⟩ := configData_lanes lane
  exact performs_writeLanes32 _ v s (List.subset_nil.2 hf) hk

/-- A wide write of the window calls devices only (40_config_decoder.md R147). -/
theorem performs_t2WinWr16 (dev : BitVec 4) (reg : Byte) (v : Word) (s : State) :
    Performs [] [.devWrite] s (execT2WinWr16 dev reg v s) := by
  have lane (k : Port) (hk : k.toNat < 4) := window_lane_ge dev reg hk
  have h0 := lane 0 (by decide)
  have h1 := lane 1 (by decide)
  rw [show windowPort dev reg + 0 = windowPort dev reg from BitVec.add_zero _] at h0
  refine performs_writeLanes16 _ v s ?_ (List.append_subset.2 ⟨portEmits_of_ge h0, portEmits_of_ge h1⟩)
  rw [portWrites_of_ge h0, portWrites_of_ge h1]
  exact List.nil_subset _

theorem performs_t2WinWr32 (dev : BitVec 4) (reg : Byte) (v : Dword) (s : State) :
    Performs [] [.devWrite] s (execT2WinWr32 dev reg v s) := by
  have lane (k : Port) (hk : k.toNat < 4) := window_lane_ge dev reg hk
  have h0 := lane 0 (by decide)
  have h1 := lane 1 (by decide)
  have h2 := lane 2 (by decide)
  have h3 : 0xC000 ≤ (windowPort dev reg + 2 + 1).toNat := by rw [BitVec.add_assoc]; exact lane 3 (by decide)
  rw [show windowPort dev reg + 0 = windowPort dev reg from BitVec.add_zero _] at h0
  refine performs_writeLanes32 _ v s ?_ (List.append_subset.2
    ⟨List.append_subset.2 ⟨portEmits_of_ge h0, portEmits_of_ge h1⟩,
      List.append_subset.2 ⟨portEmits_of_ge h2, portEmits_of_ge h3⟩⟩)
  rw [portWrites_of_ge h0, portWrites_of_ge h1, portWrites_of_ge h2, portWrites_of_ge h3]
  exact List.nil_subset _

theorem performs_ioNone (port : Port) (access : Access) (s : State) :
    Performs (writers (.ioNone port access)) (emitters (.ioNone port access)) s (execIoNone port access s) := by
  cases access with
  | rd8 => exact .atOnce _ s
  | rd16 => exact performs_readLanes16 port s
  | rd32 => exact performs_readLanes32 port s
  | wr8 v => exact .atOnce _ s
  | wr16 v =>
    exact performs_writeLanes16 port v s (List.Subset.refl _)
      (List.append_subset.2 ⟨portEmits_subset _, portEmits_subset _⟩)
  | wr32 v =>
    refine performs_writeLanes32 port v s ?_ ?_
    · rw [BitVec.add_assoc port 2 1, ← List.append_assoc]
      exact List.Subset.refl _
    · simp [emitters, portEmits_subset]

theorem performs_init (type : Byte) (s : State) : Performs (writers (.init type)) [] s (execInit type s) := by
  unfold execInit
  cases initMech type with
  | none => exact .refuse s
  | some mech => exact .withBlock (rewrites_initialBlock type s.params mech _ s.blk) _

theorem performs_registerSlot (device cls inta intb intc intd : Byte) (s : State) :
    Performs (writers (.registerSlot device cls inta intb intc intd)) [] s
      (execRegisterSlot device cls inta intb intc intd s) := by
  refine .orRefuse ?_
  split
  · exact .refuse s
  next d slot hslot =>
    obtain ⟨hid, hdev⟩ := slotOf_eq_some hslot
    split
    next h => exact .withBlock (rewrites_appendSlot h hid hdev) _ (List.Subset.refl _)
    · exact .refuse s

/-- The free slot is a registered, unbound one that matches (41_slot_registry.md R183). -/
theorem freeSlot_spec {a : AddType} {b : Block} {i : Fin 32} (h : freeSlot a b = some i) :
    i.val < b.nslots ∧ b.slots[i].dev = none ∧ matchesSlot a b.slots[i] = true := by
  simpa [and_assoc] using List.find?_some h

theorem performs_addCard (addType : Byte) (h : Handle) (s : State) :
    Performs [.slotBinding] [] s (execAddCard addType h s) := by
  refine .ite ?_ (.atOnce _ s)
  split
  · exact .atOnce _ s
  · split
    · exact .atOnce _ s
    next hfree => exact .withBlock (rewrites_bindSlot (freeSlot_spec hfree).1 h) _

theorem performs_setIrqRouting (pciInt irq : Byte) (s : State) :
    Performs [.routeIrq] [] s (execSetIrqRouting pciInt irq s) := by
  refine .orRefuse ?_
  cases intIndex pciInt with
  | none => exact .refuse s
  | some k => exact .withBlock (rewrites_setRoute_irq k irq s.blk) _

theorem performs_setIrqLevel (pciInt : Byte) (level : Bool) (s : State) :
    Performs [.routeLevel] [] s (execSetIrqLevel pciInt level s) := by
  refine .orRefuse ?_
  cases intIndex pciInt with
  | none => exact .refuse s
  | some k => exact .withBlock (rewrites_setRoute_level k level s.blk) _

theorem performs_setIrq (card pin : Byte) (s : State) :
    Performs [.hold] [.devReadCall, .picEdge, .picLevel] s (execSetIrq card pin s) := by
  have hres := resolve_effect card pin s
  unfold execSetIrq
  split
  next q level s' h =>
    rw [h] at hres
    have hc := card_lt_of_resolve h
    exact .complete (hres.trans (assertLine_effect q level (by omega) s')) _
  next s' h => rw [h] at hres; exact .complete hres _
  next s' h => rw [h] at hres; exact .complete hres _

theorem performs_clearIrq (card pin : Byte) (s : State) :
    Performs [.hold] [.devReadCall, .picClear] s (execClearIrq card pin s) := by
  have hres := resolve_effect card pin s
  unfold execClearIrq
  split
  next q level s' h => rw [h] at hres; exact .complete (hres.trans (releaseLine_effect q level _ s')) _
  next s' h => rw [h] at hres; exact .complete hres _
  next s' h => rw [h] at hres; exact .complete hres _

theorem performs_enableMirq (mirq : Byte) (s : State) : Performs [.mirqEnabled] [] s (execEnableMirq mirq s) := by
  refine .orRefuse ?_
  cases mirqIndex mirq with
  | none => exact .refuse s
  | some m => exact .withBlock (rewrites_setMirqEntry_enabled m s.blk) _

theorem performs_setMirqRouting (mirq irq : Byte) (s : State) :
    Performs [.mirqIrq] [] s (execSetMirqRouting mirq irq s) := by
  refine .orRefuse ?_
  cases mirqIndex mirq with
  | none => exact .refuse s
  | some m => exact .withBlock (rewrites_setMirqEntry_irq m irq s.blk) _

theorem performs_setMirq (mirq : Byte) (level : Bool) (s : State) :
    Performs [.hold] [.picEdge, .picLevel] s (execSetMirq mirq level s) := by
  refine .orRefuse ?_
  cases mirqIndex mirq with
  | none => exact .refuse s
  | some m =>
    dsimp only
    cases mirqLine m s.blk with
    | none => exact .atOnce _ s
    | some q => exact .complete (assertLine_effect q level (k := 0x1E + m.val) (by omega) s) _

theorem performs_clearMirq (mirq : Byte) (level : Bool) (s : State) :
    Performs [.hold] [.picClear] s (execClearMirq mirq level s) := by
  refine .orRefuse ?_
  cases mirqIndex mirq with
  | none => exact .refuse s
  | some m =>
    dsimp only
    cases mirqLine m s.blk with
    | none => exact .atOnce _ s
    | some q => exact .complete (releaseLine_effect q level _ s) _

theorem performs_irqIsLevel (irq : Byte) (s : State) : Performs [] [] s (execIrqIsLevel irq s) := by
  refine .orRefuse ?_
  cases irqLine irq with
  | none => exact .refuse s
  | some q => exact .complete (isLevel_effect q s) _

/-- Every operation does no more than its row in the tables of writers and emitters allows. -/
theorem exec_performs (i : Instr) (s : State) : Performs (writers i) (emitters i) s (exec i s) := by
  cases i with
  | elcrRd reg => exact performs_readElcr reg s
  | elcrWr reg val =>
    exact performs_writeByte (.elcr reg) val s (by rw [regPort, portWrites_elcr]; exact List.Subset.refl _)
  | t1AddrRd => exact performs_t1AddrRd s
  | t1AddrWr val => exact performs_t1AddrWr val s
  | t2CseRd => exact performs_readOwn (r := .cse) (by decide) s
  | t2CseWr val => exact performs_writeByte .cse val s (List.Subset.refl _)
  | trcRd8 => exact performs_readOwn (r := .trc) (by decide) s
  | trcRd16 => exact performs_trcRd16 s
  | trcRd32 => exact performs_trcRd32 s
  | trcWr8 val => exact performs_writeByte .trc val s (List.Subset.refl _)
  | trcWr16 val => exact performs_trcWr16 s val
  | trcWr32 val => exact performs_trcWr32 s val
  | t2BusRd => exact performs_readOwn (r := .bus) (by decide) s
  | t2BusWr val => exact performs_writeByte .bus val s (List.Subset.refl _)
  | pmcRd => exact performs_readOwn (r := .pmc) (by decide) s
  | pmcWr val => exact performs_writeByte .pmc val s (List.Subset.refl _)
  | t1DataRd8 lane => exact performs_complete8 (.configData lane) s
  | t1DataRd16 lane => exact performs_readLanes16 (configDataPort lane) s
  | t1DataRd32 lane => exact performs_readLanes32 (configDataPort lane) s
  | t1DataWr8 lane val =>
    obtain ⟨hf, -⟩ := List.append_eq_nil_iff.1 (configData_lanes lane).1
    obtain ⟨hf, -⟩ := List.append_eq_nil_iff.1 hf
    exact performs_writeByte (.configData lane) val s (List.subset_nil.2 hf)
  | t1DataWr16 lane val => exact performs_t1DataWr16 lane val s
  | t1DataWr32 lane val => exact performs_t1DataWr32 lane val s
  | t2WinRd8 dev reg => exact performs_complete8 (.window dev reg) s
  | t2WinRd16 dev reg => exact performs_readLanes16 (windowPort dev reg) s
  | t2WinRd32 dev reg => exact performs_readLanes32 (windowPort dev reg) s
  | t2WinWr8 dev reg val =>
    have hn := windowPort_toNat dev reg
    have none : portWrites (windowPort dev reg) = [] := portWrites_of_ge (by omega)
    exact performs_writeByte (.window dev reg) val s (List.subset_nil.2 none)
  | t2WinWr16 dev reg val => exact performs_t2WinWr16 dev reg val s
  | t2WinWr32 dev reg val => exact performs_t2WinWr32 dev reg val s
  | ioNone port access => exact performs_ioNone port access s
  | init type => exact performs_init type s
  | registerSlot device cls inta intb intc intd => exact performs_registerSlot device cls inta intb intc intd s
  | addCard addType h => exact performs_addCard addType h s
  | setIrqRouting pciInt irq => exact performs_setIrqRouting pciInt irq s
  | setIrqLevel pciInt level => exact performs_setIrqLevel pciInt level s
  | setIrq card pin => exact performs_setIrq card pin s
  | clearIrq card pin => exact performs_clearIrq card pin s
  | enableMirq mirq => exact performs_enableMirq mirq s
  | setMirqRouting mirq irq => exact performs_setMirqRouting mirq irq s
  | setMirq mirq level => exact performs_setMirq mirq level s
  | clearMirq mirq level => exact performs_clearMirq mirq level s
  | elcrSetEnabled en => exact (Performs.withBlock (rewrites_elcrEn en s.blk) _ (List.Subset.refl _)).orRefuse
  | reset => exact (Performs.complete (subsystemReset_effect s) _ (List.Subset.refl _) (List.Subset.refl _)).orRefuse
  | irqIsLevel irq => exact performs_irqIsLevel irq s

/-- What a completed operation did before its result. -/
theorem effect_of_exec {i : Instr} {s t : State} (h : exec i s = .next t) :
    ∃ r s', t = answer r s' ∧ Effect (writers i) (emitters i) 4 1 s s' := by
  obtain ⟨r, s', he, hs⟩ := exec_performs i s
  rw [he] at h
  cases h
  exact ⟨r, s', rfl, hs⟩

end Sys2Proof.Machine
end

section
/-! The statements over every operation: the invariants, the writers of the fields, the emitters of the events, the
environment, and the registry that only `INIT` forgets. -/

namespace Sys2Proof.Machine

open Sys2Proof

/-- Settles O10: the power-on block holds what `INIT` gives a Type 1 machine, but for `initialised` (10_state.md
R47). -/
theorem resetMeetsInvariant : Obligations.ResetMeetsInvariant := by
  unfold Obligations.ResetMeetsInvariant
  exact { invariant_initialBlock Params.default .t1 false with }

/-- Settles O11: a step is an operation, whose effect keeps the invariants, or it leaves the block. -/
theorem stepKeepsInvariant : Obligations.StepKeepsInvariant := by
  unfold Obligations.StepKeepsInvariant
  intro s t hinv h
  cases hp : s.pending with
  | nil =>
    rw [step_of_idle hp] at h
    cases h
    exact hinv
  | cons r rest =>
    cases hd : decode r.format r.bytes with
    | instr i =>
      rw [step_of_operation hp hd] at h
      obtain ⟨r, s', rfl, hs⟩ := effect_of_exec h
      exact hs.blk.keeps hinv
    | error e =>
      cases he : isRefusedCommand e with
      | true =>
        rw [step_of_refusedCommand hp hd he] at h
        cases h
        exact hinv
      | false =>
        rw [step_of_notAnOperation hp hd he] at h
        cases h

/-- Settles O12: the fields are those of the operation's effect. The descriptor `REGISTER_SLOT` takes is an unregistered
one, which the invariants make empty, and it is left unbound. -/
theorem fieldsChangeOnlyByTheirWriters : Obligations.FieldsChangeOnlyByTheirWriters := by
  unfold Obligations.FieldsChangeOnlyByTheirWriters
  refine ⟨fun i s t f h hf => ?_, fun s t device cls inta intb intc intd hinv h => ?_⟩
  · obtain ⟨r, s', rfl, hs⟩ := effect_of_exec h
    exact hs.blk.same f hf
  · simp only [exec, execRegisterSlot] at h
    split at h
    · split at h
      · cases h; exact sameField_refl _ _
      next d slot hslot =>
        split at h
        next hn =>
          cases h
          have empty := hinv.unregistered_empty ⟨s.blk.nslots, hn⟩ le_rfl
          refine proj_set Slot.dev s.blk.slots ⟨s.blk.nslots, hn⟩ slot ?_
          rw [(slotOf_eq_some hslot).2, empty, Slot.empty]
        · cases h; exact sameField_refl _ _
    · cases h; exact sameField_refl _ _

/-- Settles O13: the events are those of the operation's effect. -/
theorem eventsAreTheOperationsOwn : Obligations.EventsAreTheOperationsOwn := by
  unfold Obligations.EventsAreTheOperationsOwn
  intro i s t h
  obtain ⟨r, s', rfl, hs⟩ := effect_of_exec h
  obtain ⟨es, ht, hes, -⟩ := hs.events
  exact ⟨es, r, by rw [answer_trace, ht], hes⟩

/-- Settles O14: the effect of an operation names what it takes of the environment; its device reads are the calls among
its events. -/
theorem environmentIsOnlyRead : Obligations.EnvironmentIsOnlyRead := by
  unfold Obligations.EnvironmentIsOnlyRead
  intro i s t h
  obtain ⟨r, s', rfl, hs⟩ := effect_of_exec h
  obtain ⟨es, ht, -, hr, hle⟩ := hs.events
  have since : eventsSince s.trace.length (answer r s') = es := by
    simp [eventsSince, ht, List.filterMap_map]
  rw [since]
  exact ⟨hs.params, hs.pending, hs.scripts.1, hs.scripts.2, hr, by rw [answer_env, hr]; omega, hs.ltimReads⟩

end Sys2Proof.Machine
end

section
/-! SUPPORT. A registered slot under each operation: only `INIT` forgets it (10_state.md section 3). -/

namespace Sys2Proof.Machine

open Sys2Proof

/-- A slot stays registered with its device number, class and wiring, and bound if it was. -/
structure KeepsSlot (k : Fin 32) (b b' : Block) : Prop where
  registered : k.val < b'.nslots
  id : b'.slots[k].id = b.slots[k].id
  cls : b'.slots[k].cls = b.slots[k].cls
  route : b'.slots[k].route = b.slots[k].route
  bound : ∀ h, b.slots[k].dev = some h → b'.slots[k].dev = some h

/-- The fields of the slot table. -/
def slotFields : List Field := [.slotId, .slotClass, .slotRoute, .slotBinding, .nslots]

/-- Where no field of the slot table changes, every slot is kept. -/
theorem KeepsSlot.of_same {k : Fin 32} {b b' : Block} (hk : k.val < b.nslots)
    (h : ∀ f ∈ slotFields, sameField f b b') : KeepsSlot k b b' where
  registered := (h .nslots (by decide)) ▸ hk
  id := (h .slotId (by decide) k).symm
  cls := (h .slotClass (by decide) k).symm
  route := (h .slotRoute (by decide) k).symm
  bound hd hb := (h .slotBinding (by decide) k) ▸ hb

/-- A slot that is not touched is kept. -/
theorem KeepsSlot.of_eq {k : Fin 32} {b b' : Block} (hk : k.val < b'.nslots) (h : b'.slots[k] = b.slots[k]) :
    KeepsSlot k b b' where
  registered := hk
  id := by rw [h]
  cls := by rw [h]
  route := by rw [h]
  bound hd hb := by rw [h, hb]

/-- The fields a byte write may change are those of TRC and `RESET`. -/
theorem portWrites_subset (p : Port) : portWrites p ⊆ trcWrites := by
  unfold portWrites
  split_ifs <;> decide

/-- Only the operations of the registry write the slot table. -/
theorem slotFields_not_written {i : Instr} (hinit : ∀ type, i ≠ .init type)
    (hreg : ∀ device cls inta intb intc intd, i ≠ .registerSlot device cls inta intb intc intd)
    (hadd : ∀ addType h, i ≠ .addCard addType h) : ∀ f ∈ slotFields, f ∉ writers i := by
  have trc : ∀ f ∈ slotFields, f ∉ trcWrites := by decide
  have port (p : Port) (f : Field) (hf : f ∈ slotFields) : f ∉ portWrites p := mt (@portWrites_subset p f) (trc f hf)
  cases i with
  | init type => exact absurd rfl (hinit type)
  | registerSlot device cls inta intb intc intd => exact absurd rfl (hreg device cls inta intb intc intd)
  | addCard addType h => exact absurd rfl (hadd addType h)
  | ioNone p access =>
    intro f hf
    cases access <;> simp [writers, port _ f hf]
  | elcrWr reg val => intro f hf; rw [writers, ← portWrites_elcr]; exact port _ f hf
  | _ => simp only [writers]; decide

/-- `REGISTER_SLOT` takes a descriptor that was not registered. -/
theorem registerSlot_keepsSlot {device cls inta intb intc intd : Byte} {s t : State} {k : Fin 32}
    (h : exec (.registerSlot device cls inta intb intc intd) s = .next t) (hk : k.val < s.blk.nslots) :
    KeepsSlot k s.blk t.blk := by
  have kept : KeepsSlot k s.blk s.blk := .of_eq hk rfl
  simp only [exec, execRegisterSlot] at h
  split at h
  · split at h
    · cases h; exact kept
    · split at h
      next hn =>
        cases h
        refine .of_eq (Nat.lt_succ_of_lt hk) ?_
        simp [Nat.ne_of_gt hk]
      · cases h; exact kept
  · cases h; exact kept

/-- `ADD_CARD` takes a slot that was not bound. -/
theorem addCard_keepsSlot {addType : Byte} {hd : Handle} {s t : State} {k : Fin 32}
    (h : exec (.addCard addType hd) s = .next t) (hk : k.val < s.blk.nslots) : KeepsSlot k s.blk t.blk := by
  have kept : KeepsSlot k s.blk s.blk := .of_eq hk rfl
  simp only [exec, execAddCard] at h
  split at h
  · split at h
    · cases h; exact kept
    · split at h
      · cases h; exact kept
      next i hfree =>
        cases h
        obtain ⟨-, hunbound, -⟩ := freeSlot_spec hfree
        by_cases hi : i = k
        · subst hi
          exact ⟨hk, by simp, by simp, by simp, fun h hb => by rw [hunbound] at hb; cases hb⟩
        · exact .of_eq hk (by simp [Fin.val_ne_of_ne hi])
  · cases h; exact kept

end Sys2Proof.Machine
end

section
/-! The statement of the registry's permanence. -/

namespace Sys2Proof.Machine

open Sys2Proof

/-- Settles O50: the two other operations of the registry spare the slots in use, and no further operation writes the
table. -/
theorem registrationAndBindingArePermanent : Obligations.RegistrationAndBindingArePermanent := by
  unfold Obligations.RegistrationAndBindingArePermanent
  intro i s t k hinit h hk
  have kept : KeepsSlot k s.blk t.blk := by
    by_cases hreg : ∃ device cls inta intb intc intd, i = .registerSlot device cls inta intb intc intd
    · obtain ⟨device, cls, inta, intb, intc, intd, rfl⟩ := hreg
      exact registerSlot_keepsSlot h hk
    by_cases hadd : ∃ addType hd, i = .addCard addType hd
    · obtain ⟨addType, hd, rfl⟩ := hadd
      exact addCard_keepsSlot h hk
    obtain ⟨r, s', rfl, hs⟩ := effect_of_exec h
    push Not at hreg hadd
    exact .of_same hk fun f hf => hs.blk.same f (slotFields_not_written hinit hreg hadd f hf)
  exact ⟨kept.registered, kept.id, kept.cls, kept.route, kept.bound⟩

end Sys2Proof.Machine
end

section
/-! SUPPORT. Every access before `INIT`: no register is present (10_state.md R47). -/

namespace Sys2Proof.Machine

open Sys2Proof

section
variable {s : State} (h : s.blk.initialised = false)
include h

/-- No register is present (30_encoding.md R92). -/
theorem not_isPresent_of_not_initialised (r : ByteReg) : ¬ isPresent s.blk r = true :=
  mt claimsByte_of_isPresent (not_claimsByte_of_not_initialised h _)

theorem absent_read8 (r : ByteReg) : complete8 (readByte r s) = .next (after s s.blk [] (.val8 0xFF)) := by
  rw [readByte_of_absent (not_isPresent_of_not_initialised h r)]
  exact complete_eq_after _ s

theorem absent_write8 (r : ByteReg) (v : Byte) :
    complete .none (writeByte r v s) = .next (after s s.blk [] .none) := by
  rw [writeByte_of_absent v (not_isPresent_of_not_initialised h r), complete_eq_after]

theorem absent_read16 (p : Port) : complete16 (readLanes16 p s) = .next (after s s.blk [] (.val16 0xFFFF)) := by
  rw [readLanes16_of_not_initialised (Bool.eq_false_iff.1 h)]
  exact complete_eq_after _ s

theorem absent_read32 (p : Port) : complete32 (readLanes32 p s) = .next (after s s.blk [] (.val32 0xFFFFFFFF)) := by
  rw [readLanes32_of_not_initialised (Bool.eq_false_iff.1 h)]
  exact complete_eq_after _ s

theorem absent_write16 (p : Port) (v : Word) :
    complete .none (writeLanes16 p v s) = .next (after s s.blk [] .none) := by
  rw [writeLanes16_of_not_initialised (Bool.eq_false_iff.1 h), complete_eq_after]

theorem absent_write32 (p : Port) (v : Dword) :
    complete .none (writeLanes32 p v s) = .next (after s s.blk [] .none) := by
  rw [writeLanes32_of_not_initialised (Bool.eq_false_iff.1 h), complete_eq_after]

/-- A test of `initialised`, or of what needs it, takes its second branch. -/
theorem absent_ite {o : StepOutcome} {b : Bool} (hb : b = true → s.blk.initialised = true) {o' : StepOutcome} :
    (if b then o else o') = o' :=
  if_neg fun h' => by rw [hb h'] at h; cases h

/-- An operation that is refused before `INIT`. -/
theorem absent_refuse (o : StepOutcome) :
    (if s.blk.initialised then o else refuse s) = .next (after s s.blk [] .none) := by
  rw [absent_ite h id, refuse_eq_after]

/-- `Resolve` before `INIT` (42_interrupt_router.md R203). -/
theorem resolve_of_not_initialised (card pin : Byte) : resolve card pin s = (.nothing, s) := by
  simp [resolve, h]

end

end Sys2Proof.Machine
end

section
/-! The statement about the block before `INIT`. -/

namespace Sys2Proof.Machine

open Sys2Proof

/-- Settles O15: no register is present, so byte rows and lanes do not respond, and every sideband operation but `INIT`
tests `initialised` first. -/
theorem nothingHappensBeforeInit : Obligations.NothingHappensBeforeInit := by
  unfold Obligations.NothingHappensBeforeInit
  intro i s h hinit
  have t1 : t1Ports s.blk = true → s.blk.initialised = true := fun h => ((t1Ports_iff s.blk).1 h).1
  cases i with
  | elcrRd reg => exact absent_read8 h (.elcr reg)
  | elcrWr reg val => exact absent_write8 h (.elcr reg) val
  | t1AddrRd => exact (absent_ite h t1).trans (absent_read32 h 0x0CF8)
  | t1AddrWr val => exact (absent_ite h t1).trans (absent_write32 h 0x0CF8 val)
  | t2CseRd => exact absent_read8 h .cse
  | t2CseWr val => exact absent_write8 h .cse val
  | trcRd8 => exact absent_read8 h .trc
  | trcRd16 => exact (absent_ite h id).trans (absent_read16 h 0x0CF9)
  | trcRd32 => exact (absent_ite h id).trans (absent_read32 h 0x0CF9)
  | trcWr8 val => exact absent_write8 h .trc val
  | trcWr16 val => exact (absent_ite h id).trans (absent_write16 h 0x0CF9 val)
  | trcWr32 val => exact (absent_ite h id).trans (absent_write32 h 0x0CF9 val)
  | t2BusRd => exact absent_read8 h .bus
  | t2BusWr val => exact absent_write8 h .bus val
  | pmcRd => exact absent_read8 h .pmc
  | pmcWr val => exact absent_write8 h .pmc val
  | t1DataRd8 lane => exact absent_read8 h (.configData lane)
  | t1DataRd16 lane => exact absent_read16 h (configDataPort lane)
  | t1DataRd32 lane => exact absent_read32 h (configDataPort lane)
  | t1DataWr8 lane val => exact absent_write8 h (.configData lane) val
  | t1DataWr16 lane val => exact absent_write16 h (configDataPort lane) val
  | t1DataWr32 lane val => exact absent_write32 h (configDataPort lane) val
  | t2WinRd8 dev reg => exact absent_read8 h (.window dev reg)
  | t2WinRd16 dev reg => exact absent_read16 h (windowPort dev reg)
  | t2WinRd32 dev reg => exact absent_read32 h (windowPort dev reg)
  | t2WinWr8 dev reg val => exact absent_write8 h (.window dev reg) val
  | t2WinWr16 dev reg val => exact absent_write16 h (windowPort dev reg) val
  | t2WinWr32 dev reg val => exact absent_write32 h (windowPort dev reg) val
  | ioNone port access =>
    cases access with
    | rd8 => exact complete_eq_after _ s
    | rd16 => exact absent_read16 h port
    | rd32 => exact absent_read32 h port
    | wr8 v => exact complete_eq_after _ s
    | wr16 v => exact absent_write16 h port v
    | wr32 v => exact absent_write32 h port v
  | init type => exact absurd rfl (hinit type)
  | addCard addType hd => exact (absent_ite h id).trans (complete_eq_after _ s)
  | setIrq card pin =>
    simp only [exec, execSetIrq, resolve_of_not_initialised h]
    exact complete_eq_after _ s
  | clearIrq card pin =>
    simp only [exec, execClearIrq, resolve_of_not_initialised h]
    exact complete_eq_after _ s
  | _ => exact absent_refuse h _

end Sys2Proof.Machine
end

section
/-! SUPPORT. Two states the host cannot tell apart answer every port access alike and stay so (10_state.md R42). -/

namespace Sys2Proof.Machine

open Sys2Proof

/-- A block with the fields that no I/O port shows taken from another (10_state.md R42). -/
def hide (c b : Block) : Block :=
  { b with hold := c.hold, irqRoute := c.irqRoute, mirq := c.mirq, elcrEn := c.elcrEn, noSteer := c.noSteer }

/-- The value a read gives is the same, and the states it leaves are related again. -/
structure SameRead {α : Type} (x x' : α × State) : Prop where
  value : x.1 = x'.1
  state : SameToHost x.2 x'.2

section
variable {s s' : State} (h : SameToHost s s')
include h

/-- What does not depend on the hidden fields is the same in both. -/
theorem SameToHost.congr {α : Type} (f : Block → α) (hf : ∀ c b, f (hide c b) = f b := by intros; rfl) :
    f s.blk = f s'.blk := by
  rw [← hf s'.blk, show hide s'.blk s.blk = s'.blk from h.blk]

theorem SameToHost.isPresent (r : ByteReg) : isPresent s.blk r = isPresent s'.blk r :=
  h.congr (Machine.isPresent · r) fun c b => by cases r <;> rfl

/-- An update that neither reads nor writes the hidden fields. -/
theorem SameToHost.update (g : Block → Block) (hg : ∀ c b, hide (g c) (g b) = g (hide c b) := by intros; rfl) :
    SameToHost (withBlock (g s.blk) s) (withBlock (g s'.blk) s') where
  blk := (hg s'.blk s.blk).trans (congrArg g h.blk)
  params := h.params
  pending := h.pending
  env := h.env
  trace := h.trace

/-- A device is asked the same and answers the same. -/
theorem SameToHost.devRead (hd : Handle) (func : BitVec 3) (addr : Byte) :
    SameRead (devRead hd func addr s) (devRead hd func addr s') where
  value := by simp only [Machine.devRead, devAnswer, h.env]
  state := ⟨h.blk, h.params, h.pending, by simp only [Machine.devRead, emit_env, h.env], (h.emit _).trace⟩

theorem SameToHost.cfgRead8 (dev : BitVec 5) (func : BitVec 3) (addr : Byte) :
    SameRead (cfgRead8 dev func addr s) (cfgRead8 dev func addr s') := by
  have bound : boundDevice dev s.blk = boundDevice dev s'.blk := h.congr (boundDevice dev)
  rw [Machine.cfgRead8, Machine.cfgRead8, bound]
  cases boundDevice dev s'.blk with
  | none => exact ⟨rfl, h⟩
  | some hd => exact h.devRead hd func addr

theorem SameToHost.cfgWrite8 (dev : BitVec 5) (func : BitVec 3) (addr v : Byte) :
    SameToHost (cfgWrite8 dev func addr v s) (cfgWrite8 dev func addr v s') := by
  have bound : boundDevice dev s.blk = boundDevice dev s'.blk := h.congr (boundDevice dev)
  rw [Machine.cfgWrite8, Machine.cfgWrite8, bound]
  cases boundDevice dev s'.blk with
  | none => exact h
  | some hd => exact h.emit _

theorem SameToHost.readConfigData (lane : BitVec 2) : SameRead (readConfigData lane s) (readConfigData lane s') := by
  have gate : t1Gate s.blk = t1Gate s'.blk := h.congr t1Gate
  have dev : s.blk.caDev = s'.blk.caDev := h.congr Block.caDev
  have func : s.blk.caFunc = s'.blk.caFunc := h.congr Block.caFunc
  have index : configIndex lane s.blk = configIndex lane s'.blk := h.congr (configIndex lane)
  rw [Machine.readConfigData, Machine.readConfigData, gate, dev, func, index]
  split
  · exact h.cfgRead8 _ _ _
  · exact ⟨rfl, h⟩

theorem SameToHost.writeConfigData (lane : BitVec 2) (v : Byte) :
    SameToHost (writeConfigData lane v s) (writeConfigData lane v s') := by
  have gate : t1Gate s.blk = t1Gate s'.blk := h.congr t1Gate
  have dev : s.blk.caDev = s'.blk.caDev := h.congr Block.caDev
  have func : s.blk.caFunc = s'.blk.caFunc := h.congr Block.caFunc
  have index : configIndex lane s.blk = configIndex lane s'.blk := h.congr (configIndex lane)
  rw [Machine.writeConfigData, Machine.writeConfigData, gate, dev, func, index]
  split
  · exact h.cfgWrite8 _ _ _ _
  · exact h

theorem SameToHost.readWindow (dev : BitVec 4) (reg : Byte) :
    SameRead (readWindow dev reg s) (readWindow dev reg s') := by
  have gate : t2Gate s.blk = t2Gate s'.blk := h.congr t2Gate
  have func : s.blk.t2Func = s'.blk.t2Func := h.congr Block.t2Func
  rw [Machine.readWindow, Machine.readWindow, gate, func]
  split
  · exact h.cfgRead8 _ _ _
  · exact ⟨rfl, h⟩

theorem SameToHost.writeWindow (dev : BitVec 4) (reg v : Byte) :
    SameToHost (writeWindow dev reg v s) (writeWindow dev reg v s') := by
  have gate : t2Gate s.blk = t2Gate s'.blk := h.congr t2Gate
  have func : s.blk.t2Func = s'.blk.t2Func := h.congr Block.t2Func
  rw [Machine.writeWindow, Machine.writeWindow, gate, func]
  split
  · exact h.cfgWrite8 _ _ _ _
  · exact h

/-- `Reset()` clears the hold masks, and the interrupts it clears are not shown (10_state.md R42). -/
theorem SameToHost.subsystemReset : SameToHost (subsystemReset s) (subsystemReset s') where
  blk := by
    rw [subsystemReset_blk, subsystemReset_blk]
    exact congrArg (fun b => { clearDecoder b with
      hold := Vector.replicate 16 0, elcr0 := 0, elcr1 := 0, pmc := false }) h.blk
  params := h.params
  pending := h.pending
  env := h.env
  trace := by
    have hidden (b : Block) : (((heldLines b).map .picClear).map Obs.event).filter (fun o => !isPicEvent o) = [] := by
      simp [isPicEvent]
    rw [subsystemReset_trace, subsystemReset_trace, List.filter_append, List.filter_append, hidden, hidden, h.trace]

theorem SameToHost.cascade : SameToHost (cascade s) (cascade s') :=
  (h.emitAll _).subsystemReset.emitAll _

theorem SameToHost.writeTrc (v : Byte) : SameToHost (writeTrc v s) (writeTrc v s') := by
  have fires : trcFires v s.blk = trcFires v s'.blk := h.congr (trcFires v)
  have reset : SameToHost (trcReset v s) (trcReset v s') := by
    rw [trcReset, trcReset, h.params]
    split
    · exact h.cascade.emit _
    · exact h.emit _
  rw [Machine.writeTrc, Machine.writeTrc, fires]
  dsimp only
  split
  · exact reset.update fun b => { b with trc := trcStored v }
  · exact h.update fun b => { b with trc := trcStored v }

/-- The registers of the block show no hidden field. -/
theorem SameToHost.readByte (r : ByteReg) : SameRead (readByte r s) (readByte r s') := by
  rw [Machine.readByte, Machine.readByte, h.isPresent]
  split
  · cases r with
    | elcr reg => exact ⟨h.congr (elcrValue reg), h⟩
    | cse => exact ⟨h.congr cseValue, h⟩
    | trc => exact ⟨congrArg₂ (· &&& ·) (h.congr Block.trc) (congrArg Params.trcReadMask h.params), h⟩
    | bus => exact ⟨h.congr Block.t2Bus, h⟩
    | pmc => exact ⟨h.congr pmcValue, h⟩
    | configData lane => exact h.readConfigData lane
    | window dev reg => exact h.readWindow dev reg
  · exact ⟨rfl, h⟩

/-- The registers of the block change no hidden field but the hold masks, through a reset. -/
theorem SameToHost.writeByte (r : ByteReg) (v : Byte) : SameToHost (writeByte r v s) (writeByte r v s') := by
  rw [Machine.writeByte, Machine.writeByte, h.isPresent]
  split
  · cases r with
    | elcr reg =>
      refine h.update (writeElcr reg v) fun c b => ?_
      simp only [writeElcr]
      split <;> rfl
    | cse => exact h.update (writeCse v)
    | trc => exact h.writeTrc v
    | bus => exact h.update fun b => { b with t2Bus := v }
    | pmc => exact h.update (writePmc v)
    | configData lane => exact h.writeConfigData lane v
    | window dev reg => exact h.writeWindow dev reg v
  · exact h

theorem SameToHost.ioRead8 (p : Port) : SameRead (ioRead8 p s) (ioRead8 p s') := by
  unfold Machine.ioRead8
  split
  · exact h.readByte _
  · exact ⟨rfl, h⟩

theorem SameToHost.ioWrite8 (p : Port) (v : Byte) : SameToHost (ioWrite8 p v s) (ioWrite8 p v s') := by
  unfold Machine.ioWrite8
  split
  · exact h.writeByte _ v
  · exact h

theorem SameToHost.readLanes16 (p : Port) : SameRead (readLanes16 p s) (readLanes16 p s') := by
  have lane0 := h.ioRead8 p
  have lane1 := lane0.state.ioRead8 (p + 1)
  exact ⟨congrArg₂ (· ++ ·) lane1.value lane0.value, lane1.state⟩

theorem SameToHost.readLanes32 (p : Port) : SameRead (readLanes32 p s) (readLanes32 p s') := by
  have low := h.readLanes16 p
  have high := low.state.readLanes16 (p + 2)
  exact ⟨congrArg₂ (· ++ ·) high.value low.value, high.state⟩

theorem SameToHost.writeLanes16 (p : Port) (v : Word) : SameToHost (writeLanes16 p v s) (writeLanes16 p v s') :=
  (h.ioWrite8 p _).ioWrite8 (p + 1) _

theorem SameToHost.writeLanes32 (p : Port) (v : Dword) : SameToHost (writeLanes32 p v s) (writeLanes32 p v s') :=
  (h.writeLanes16 p _).writeLanes16 (p + 2) _

end

/-- Two outcomes complete with one result and leave related states. -/
def SameOutcome (o o' : StepOutcome) : Prop :=
  ∃ (t t' : State) (r : Result), o = complete r t ∧ o' = complete r t' ∧ SameToHost t t'

theorem SameToHost.complete {s s' : State} (h : SameToHost s s') (r : Result) :
    SameOutcome (complete r s) (complete r s') :=
  ⟨s, s', r, rfl, rfl, h⟩

/-- A read that gives the same value completes the same way. -/
theorem SameRead.complete {α : Type} {x x' : α × State} (h : SameRead x x') (r : α → Result) :
    SameOutcome (Machine.complete (r x.1) x.2) (Machine.complete (r x'.1) x'.2) := by
  rw [h.value]
  exact h.state.complete _

/-- The result of a completed operation. -/
theorem resultOf_complete (r : Result) (s : State) : resultOf (complete r s) = some r := by
  simp [resultOf, complete]

/-- Every host transaction does the same in both (30_encoding.md R91). -/
theorem SameToHost.exec_decodeAccess {s s' : State} (h : SameToHost s s') (p : Port) (a : Access) :
    SameOutcome (exec (decodeAccess p a) s) (exec (decodeAccess p a) s') := by
  have native : NativeTrc p s.blk = NativeTrc p s'.blk := h.congr (NativeTrc p)
  have address : IsConfigAddress p s.blk = IsConfigAddress p s'.blk := h.congr (IsConfigAddress p)
  cases a with
  | rd8 => rw [exec_rd8, exec_rd8]; exact (h.ioRead8 p).complete .val8
  | wr8 v => rw [exec_wr8, exec_wr8]; exact (h.ioWrite8 p v).complete .none
  | rd16 =>
    by_cases hn : NativeTrc p s.blk
    · rw [exec_rd16_trc hn, exec_rd16_trc (native ▸ hn)]; exact h.complete _
    · rw [exec_rd16 hn, exec_rd16 (native ▸ hn)]; exact (h.readLanes16 p).complete .val16
  | wr16 v =>
    by_cases hn : NativeTrc p s.blk
    · rw [exec_wr16_trc hn, exec_wr16_trc (native ▸ hn)]; exact h.complete _
    · rw [exec_wr16 hn, exec_wr16 (native ▸ hn)]; exact (h.writeLanes16 p v).complete .none
  | rd32 =>
    by_cases ha : IsConfigAddress p s.blk
    · rw [exec_rd32_configAddress ha, exec_rd32_configAddress (address ▸ ha),
        show configAddress s.blk = configAddress s'.blk from h.congr configAddress]
      exact h.complete _
    by_cases hn : NativeTrc p s.blk
    · rw [exec_rd32_trc hn, exec_rd32_trc (native ▸ hn)]; exact h.complete _
    · rw [exec_rd32 ha hn, exec_rd32 (address ▸ ha) (native ▸ hn)]; exact (h.readLanes32 p).complete .val32
  | wr32 v =>
    by_cases ha : IsConfigAddress p s.blk
    · rw [exec_wr32_configAddress ha, exec_wr32_configAddress (address ▸ ha)]
      exact (h.update (latchAddress v)).complete _
    by_cases hn : NativeTrc p s.blk
    · rw [exec_wr32_trc hn, exec_wr32_trc (native ▸ hn)]; exact h.complete _
    · rw [exec_wr32 ha hn, exec_wr32 (address ▸ ha) (native ▸ hn)]; exact (h.writeLanes32 p v).complete .none

end Sys2Proof.Machine
end

section
/-! The statement about what the host sees of the router. -/

namespace Sys2Proof.Machine

open Sys2Proof

/-- Settles O17: no register shows a hidden field, so every lane and every native row gives the same value, calls the
same devices and leaves the two states related. -/
theorem hostReadsRevealNoRouterState : Obligations.HostReadsRevealNoRouterState := by
  unfold Obligations.HostReadsRevealNoRouterState
  intro p a s s' h
  obtain ⟨t, t', r, ht, ht', hsame⟩ := h.exec_decodeAccess p a
  exact ⟨answer r t, answer r t', r, ht, ht', resultOf_complete r t, resultOf_complete r t', hsame.answer r⟩

end Sys2Proof.Machine
end

section
/-! SUPPORT. Lanes that reach a device: the bytes and the calls of a wide access whose first lanes go to one device
and whose other lanes are not answered (40_config_decoder.md R138, R140, R147). -/

namespace Sys2Proof.Machine

open Sys2Proof

/-- Every byte access at the port is one call of this device. -/
def CallsDevice (b : Block) (p : Port) (h : Handle) (func : BitVec 3) (addr : Byte) : Prop :=
  ∀ s : State, s.blk = b →
    ioRead8 p s = devRead h func addr s ∧ ∀ v, ioWrite8 p v s = emit (.devWrite h func addr v) s

/-- The first lane of a read comes before the others. -/
theorem tableReadLanes_cons (n : Nat) (p : Port) (s : State) :
    tableReadLanes (n + 1) p s =
      ((ioRead8 p s).1 :: (tableReadLanes n (p + 1) (ioRead8 p s).2).1,
        (tableReadLanes n (p + 1) (ioRead8 p s).2).2) := by
  rw [← tableRead8_eq]
  rfl

/-- The port of a later lane is counted from the first. -/
theorem port_succ (p : Port) (n : Nat) : p + 1 + BitVec.ofNat 16 n = p + BitVec.ofNat 16 (n + 1) := by
  rw [Nat.add_comm n 1, BitVec.ofNat_add, BitVec.add_assoc]
  rfl

/-- The last lane of a read comes after the others. -/
theorem tableReadLanes_succ (n : Nat) (p : Port) (s : State) :
    tableReadLanes (n + 1) p s =
      ((tableReadLanes n p s).1 ++ [(ioRead8 (p + BitVec.ofNat 16 n) (tableReadLanes n p s).2).1],
        (ioRead8 (p + BitVec.ofNat 16 n) (tableReadLanes n p s).2).2) := by
  induction n generalizing p s with
  | zero => simp [tableReadLanes, tableRead8_eq]
  | succ n ih =>
    rw [tableReadLanes_cons, ih, port_succ, tableReadLanes_cons n p s]
    rfl

/-- The last lane of a write comes after the others. -/
theorem tableWriteLanes_concat (vs : List Byte) (v : Byte) (p : Port) (s : State) :
    tableWriteLanes (vs ++ [v]) p s = ioWrite8 (p + BitVec.ofNat 16 vs.length) v (tableWriteLanes vs p s) := by
  induction vs generalizing p s with
  | nil => simp [tableWriteLanes, tableWrite8_eq]
  | cons w vs ih => rw [List.cons_append, tableWriteLanes, ih, port_succ, tableWriteLanes, List.length_cons]

/-- The answer to a later read is counted from before the earlier ones. -/
theorem devAnswer_called (es : List Event) (s : State) (h : Handle) (func : BitVec 3) (addr : Byte) :
    devAnswer h func addr (called es s) = answerAt s es.length h func addr := rfl

section
variable {m : Nat} {p : Port} {s : State} {h : Handle} {func : BitVec 3} {addr : Nat → Byte}

/-- The lanes of a read: one call per lane in ascending order up to lane `m`, all-ones past it. -/
theorem tableReadLanes_device (n : Nat)
    (hdev : ∀ k < n, k < m → CallsDevice s.blk (p + BitVec.ofNat 16 k) h func (addr k))
    (hsil : ∀ k < n, m ≤ k → Silent s.blk (p + BitVec.ofNat 16 k)) :
    tableReadLanes n p s =
      ((List.range n).map fun k => if k < m then answerAt s k h func (addr k) else 0xFF,
        called ((List.range (min n m)).map fun k => .devReadCall h func (addr k)) s) := by
  induction n with
  | zero => simp [tableReadLanes]
  | succ n ih =>
    rw [tableReadLanes_succ, ih (fun k hk => hdev k (by omega)) (fun k hk => hsil k (by omega)), List.range_succ,
      List.map_append]
    by_cases hm : n < m
    · rw [(hdev n (by omega) hm _ (called_blk _ s)).1, Nat.min_eq_left hm, Nat.min_eq_left hm.le, List.range_succ,
        List.map_append, ← called_called, devRead_eq_called]
      simp [devRead, devAnswer_called, hm]
    · rw [(hsil n (by omega) (by omega) _ (called_blk _ s)).1, Nat.min_eq_right (by omega), Nat.min_eq_right (by omega)]
      simp [hm]

/-- The lanes of a write: one call per lane in ascending order up to lane `m`, nothing past it. -/
theorem tableWriteLanes_device (vs : List Byte)
    (hdev : ∀ k < vs.length, k < m → CallsDevice s.blk (p + BitVec.ofNat 16 k) h func (addr k))
    (hsil : ∀ k < vs.length, m ≤ k → Silent s.blk (p + BitVec.ofNat 16 k)) :
    tableWriteLanes vs p s = emitAll ((vs.take m).zipIdx.map fun (v, k) => .devWrite h func (addr k) v) s := by
  induction vs using List.reverseRecOn with
  | nil => simp [tableWriteLanes, emitAll]
  | append_singleton vs v ih =>
    rw [List.length_append, List.length_singleton] at hdev hsil
    rw [tableWriteLanes_concat, ih (fun k hk => hdev k (by omega)) (fun k hk => hsil k (by omega))]
    by_cases hm : vs.length < m
    · rw [(hdev vs.length (by omega) hm _ (emitAll_blk _ s)).2, List.take_of_length_le hm.le,
        List.take_of_length_le (by simp; omega), List.zipIdx_append]
      simp [emit, emitAll]
    · rw [(hsil vs.length (by omega) (by omega) _ (emitAll_blk _ s)).2, List.take_append_of_le_length (by omega)]

end

/-- An operation that completes after device reads. -/
theorem complete_called {es : List Event} (hk : ∀ e ∈ es, isDevReadCall e = true) (r : Result) (s : State) :
    complete r (called es s) = .next (after s s.blk es r) := by
  rw [after, List.countP_eq_length.2 hk]
  rfl

/-- An operation that completes after other events. -/
theorem complete_emitAll {es : List Event} (hk : ∀ e ∈ es, isDevReadCall e = false) (r : Result) (s : State) :
    complete r (emitAll es s) = .next (after s s.blk es r) := by
  have none : es.countP isDevReadCall = 0 := List.countP_eq_zero.2 fun e he => by simp [hk e he]
  rw [after, none]
  rfl

end Sys2Proof.Machine
end

section
/-! SUPPORT. The lanes of CONFIG_DATA and of the window: which of them reach a device and which are not answered
(40_config_decoder.md R134, R137 to R140, R145 to R148). -/

namespace Sys2Proof.Machine

open Sys2Proof

/-- A CONFIG_DATA byte access is one call of the latched device, when it is reached (40_config_decoder.md R137,
R139). -/
theorem configData_callsDevice {b : Block} {h : Handle} (hp : t1Ports b = true) (hen : b.caEn = true)
    (hbus : b.caBus = 0) (hr : Reaches b b.caDev h) (lane : BitVec 2) :
    CallsDevice b (configDataPort lane) h b.caFunc (b.caReg ||| BitVec.ofNat 8 lane.toNat) := by
  rintro s rfl
  have present : isPresent s.blk (.configData lane) = true := hp
  have gate := (t1Gate_iff s.blk).2 ⟨hen, hbus⟩
  have port : configDataPort lane = regPort (.configData lane) := rfl
  rw [port, ioRead8_regPort, readByte_of_isPresent present, readReg, readConfigData_of_reaches hen hbus hr,
    ← configIndex_eq]
  refine ⟨rfl, fun v => ?_⟩
  rw [ioWrite8_regPort, writeByte_of_isPresent v present, writeReg, writeConfigData, if_pos gate,
    cfgWrite8_of_reaches hr]

/-- A CONFIG_DATA byte access that reaches no device is not answered (40_config_decoder.md R137, R139). -/
theorem configData_silent {b : Block} (hn : b.caEn = false ∨ b.caBus ≠ 0 ∨ ∀ h, ¬ Reaches b b.caDev h)
    (lane : BitVec 2) : Silent b (configDataPort lane) := by
  by_cases hp : isPresent b (.configData lane) = true
  · rintro s rfl
    have port : configDataPort lane = regPort (.configData lane) := rfl
    rw [port, ioRead8_regPort, readByte_of_isPresent hp, readReg, readConfigData_of_not_present hn]
    refine ⟨rfl, fun v => ?_⟩
    rw [ioWrite8_regPort, writeByte_of_isPresent v hp, writeReg, writeConfigData]
    split
    next hg =>
      obtain ⟨hen, hbus⟩ := (t1Gate_iff s.blk).1 hg
      have hr : ∀ h, ¬ Reaches s.blk s.blk.caDev h := by simpa [hen, hbus] using hn
      exact cfgWrite8_of_not_reaches hr
    · rfl
  · exact silent_of_absent (r := .configData lane) hp

/-- The lanes of a CONFIG_DATA access are CONFIG_DATA up to 0x0CFF and no register past it (20_memory.md R64). -/
theorem configData_lane (lane : BitVec 2) : ∀ k < 4,
    (lane.toNat + k < 4 → configDataPort lane + BitVec.ofNat 16 k = configDataPort (BitVec.ofNat 2 (lane.toNat + k))) ∧
    (4 ≤ lane.toNat + k → byteReg (configDataPort lane + BitVec.ofNat 16 k) = none) := by
  revert lane; decide

/-- Each lane up to 0x0CFF calls the latched device, with its own index. -/
theorem configData_lane_callsDevice {b : Block} {h : Handle} (hp : t1Ports b = true) (hen : b.caEn = true)
    (hbus : b.caBus = 0) (hr : Reaches b b.caDev h) (lane : BitVec 2) {k : Nat} (hk : k < 4 - lane.toNat) :
    CallsDevice b (configDataPort lane + BitVec.ofNat 16 k) h b.caFunc
      (b.caReg ||| BitVec.ofNat 8 (lane.toNat + k)) := by
  rw [(configData_lane lane k (by omega)).1 (by omega)]
  have number : (BitVec.ofNat 2 (lane.toNat + k)).toNat = lane.toNat + k := Nat.mod_eq_of_lt (by omega)
  have calls := configData_callsDevice hp hen hbus hr (BitVec.ofNat 2 (lane.toNat + k))
  rwa [number] at calls

/-- Each lane past 0x0CFF is not answered. -/
theorem configData_lane_silent (b : Block) (lane : BitVec 2) {k : Nat} (hk : k < 4) (hl : 4 - lane.toNat ≤ k) :
    Silent b (configDataPort lane + BitVec.ofNat 16 k) :=
  silent_of_none b ((configData_lane lane k hk).2 (by omega))

/-- No lane is answered where no device is reached. -/
theorem configData_lanes_silent {b : Block} (hn : b.caEn = false ∨ b.caBus ≠ 0 ∨ ∀ h, ¬ Reaches b b.caDev h)
    (lane : BitVec 2) {k : Nat} (hk : k < 4) : Silent b (configDataPort lane + BitVec.ofNat 16 k) := by
  by_cases hl : lane.toNat + k < 4
  · rw [(configData_lane lane k hk).1 hl]
    exact configData_silent hn _
  · exact configData_lane_silent b lane hk (by omega)

/-- A window byte access is one call of the device, when it is reached (40_config_decoder.md R145, R146). -/
theorem window_callsDevice {b : Block} {h : Handle} {dev : BitVec 4} (hw : windowOpen b = true) (hbus : b.t2Bus = 0)
    (hr : Reaches b (BitVec.ofNat 5 dev.toNat) h) (reg : Byte) : CallsDevice b (windowPort dev reg) h b.t2Func reg := by
  rintro s rfl
  rw [BitVec.ofNat_toNat] at hr
  have present : isPresent s.blk (.window dev reg) = true := hw
  have gate := (t2Gate_iff s.blk).2 hbus
  have port : windowPort dev reg = regPort (.window dev reg) := rfl
  rw [port, ioRead8_regPort, readByte_of_isPresent present, readReg, readWindow, if_pos gate, cfgRead8_of_reaches hr]
  refine ⟨rfl, fun v => ?_⟩
  rw [ioWrite8_regPort, writeByte_of_isPresent v present, writeReg, writeWindow, if_pos gate, cfgWrite8_of_reaches hr]

/-- A window byte access that reaches no device is not answered (40_config_decoder.md R145, R146). -/
theorem window_silent {b : Block} {dev : BitVec 4}
    (hn : b.t2Bus ≠ 0 ∨ ∀ h, ¬ Reaches b (BitVec.ofNat 5 dev.toNat) h) (reg : Byte) :
    Silent b (windowPort dev reg) := by
  by_cases hp : isPresent b (.window dev reg) = true
  · rintro s rfl
    rw [BitVec.ofNat_toNat] at hn
    have port : windowPort dev reg = regPort (.window dev reg) := rfl
    rw [port, ioRead8_regPort, readByte_of_isPresent hp, readReg, readWindow]
    split
    next hg =>
      have hr := hn.resolve_left (not_not.2 ((t2Gate_iff s.blk).1 hg))
      refine ⟨cfgRead8_of_not_reaches hr, fun v => ?_⟩
      rw [ioWrite8_regPort, writeByte_of_isPresent v hp, writeReg, writeWindow, if_pos hg, cfgWrite8_of_not_reaches hr]
    next hg =>
      refine ⟨rfl, fun v => ?_⟩
      rw [ioWrite8_regPort, writeByte_of_isPresent v hp, writeReg, writeWindow, if_neg hg]
  · exact silent_of_absent (r := .window dev reg) hp

/-- The lanes of a window access inside one device are its next registers (20_memory.md R64). -/
theorem window_lane (dev : BitVec 4) (reg : Byte) {k : Nat} (hk : reg.toNat + k < 256) :
    windowPort dev reg + BitVec.ofNat 16 k = windowPort dev (BitVec.ofNat 8 (reg.toNat + k)) := by
  apply BitVec.eq_of_toNat_eq
  have hd := dev.isLt
  rw [BitVec.toNat_add, windowPort_toNat, windowPort_toNat, BitVec.toNat_ofNat, BitVec.toNat_ofNat]
  omega

end Sys2Proof.Machine
end

section
/-! SUPPORT. Wide accesses whose lanes reach one device, or are not answered at all, as outcomes. -/

namespace Sys2Proof.Machine

open Sys2Proof

section
variable {m : Nat} {p : Port} {s : State} {h : Handle} {func : BitVec 3} {addr : Nat → Byte}

theorem complete16_device (hdev : ∀ k < 2, k < m → CallsDevice s.blk (p + BitVec.ofNat 16 k) h func (addr k))
    (hsil : ∀ k < 2, m ≤ k → Silent s.blk (p + BitVec.ofNat 16 k)) :
    complete16 (readLanes16 p s) =
      .next (after s s.blk ((List.range (min 2 m)).map fun k => .devReadCall h func (addr k))
        (.val16 (BitVec.ofNat 16 (laneValue
          ((List.range 2).map fun k => if k < m then answerAt s k h func (addr k) else 0xFF))))) := by
  rw [readLanes16_eq, tableReadLanes_device 2 hdev hsil]
  exact complete_called (List.forall_mem_map.2 fun _ _ => rfl) _ s

theorem complete32_device (hdev : ∀ k < 4, k < m → CallsDevice s.blk (p + BitVec.ofNat 16 k) h func (addr k))
    (hsil : ∀ k < 4, m ≤ k → Silent s.blk (p + BitVec.ofNat 16 k)) :
    complete32 (readLanes32 p s) =
      .next (after s s.blk ((List.range (min 4 m)).map fun k => .devReadCall h func (addr k))
        (.val32 (BitVec.ofNat 32 (laneValue
          ((List.range 4).map fun k => if k < m then answerAt s k h func (addr k) else 0xFF))))) := by
  rw [readLanes32_eq, tableReadLanes_device 4 hdev hsil]
  exact complete_called (List.forall_mem_map.2 fun _ _ => rfl) _ s

theorem complete_writeLanes16_device (v : Word)
    (hdev : ∀ k < 2, k < m → CallsDevice s.blk (p + BitVec.ofNat 16 k) h func (addr k))
    (hsil : ∀ k < 2, m ≤ k → Silent s.blk (p + BitVec.ofNat 16 k)) :
    complete .none (writeLanes16 p v s) =
      .next (after s s.blk (((littleEndian 2 v.toNat).take m).zipIdx.map fun (v, k) => .devWrite h func (addr k) v)
        .none) := by
  rw [writeLanes16_eq, tableWriteLanes_device (littleEndian 2 v.toNat) hdev hsil,
    complete_emitAll (List.forall_mem_map.2 fun _ _ => rfl)]

theorem complete_writeLanes32_device (v : Dword)
    (hdev : ∀ k < 4, k < m → CallsDevice s.blk (p + BitVec.ofNat 16 k) h func (addr k))
    (hsil : ∀ k < 4, m ≤ k → Silent s.blk (p + BitVec.ofNat 16 k)) :
    complete .none (writeLanes32 p v s) =
      .next (after s s.blk (((littleEndian 4 v.toNat).take m).zipIdx.map fun (v, k) => .devWrite h func (addr k) v)
        .none) := by
  rw [writeLanes32_eq, tableWriteLanes_device (littleEndian 4 v.toNat) hdev hsil,
    complete_emitAll (List.forall_mem_map.2 fun _ _ => rfl)]

end

section
variable {p : Port} {s : State}

theorem complete8_of_silent (h : Silent s.blk p) : complete8 (ioRead8 p s) = .next (after s s.blk [] (.val8 0xFF)) := by
  rw [ioRead8_of_silent h]
  exact complete_eq_after _ s

theorem complete_ioWrite8_of_silent (h : Silent s.blk p) (v : Byte) :
    complete .none (ioWrite8 p v s) = .next (after s s.blk [] .none) := by
  rw [ioWrite8_of_silent h, complete_eq_after]

theorem complete8_of_callsDevice {h : Handle} {func : BitVec 3} {addr : Byte} (hd : CallsDevice s.blk p h func addr) :
    complete8 (ioRead8 p s) =
      .next (after s s.blk [.devReadCall h func addr] (.val8 (answerAt s 0 h func addr))) := by
  rw [(hd s rfl).1, complete8_devRead]

theorem complete_ioWrite8_of_callsDevice {h : Handle} {func : BitVec 3} {addr : Byte}
    (hd : CallsDevice s.blk p h func addr) (v : Byte) :
    complete .none (ioWrite8 p v s) = .next (after s s.blk [.devWrite h func addr v] .none) := by
  rw [(hd s rfl).2]
  rfl

theorem complete16_of_silent (h : ∀ k < 2, Silent s.blk (p + BitVec.ofNat 16 k)) :
    complete16 (readLanes16 p s) = .next (after s s.blk [] (.val16 0xFFFF)) := by
  rw [readLanes16_of_silent (by simpa using h 0 (by omega)) (h 1 (by omega))]
  exact complete_eq_after _ s

theorem complete32_of_silent (h : ∀ k < 4, Silent s.blk (p + BitVec.ofNat 16 k)) :
    complete32 (readLanes32 p s) = .next (after s s.blk [] (.val32 0xFFFFFFFF)) := by
  rw [readLanes32_of_silent (by simpa using h 0 (by omega)) (h 1 (by omega)) (h 2 (by omega)) (h 3 (by omega))]
  exact complete_eq_after _ s

theorem complete_writeLanes16_of_silent (h : ∀ k < 2, Silent s.blk (p + BitVec.ofNat 16 k)) (v : Word) :
    complete .none (writeLanes16 p v s) = .next (after s s.blk [] .none) := by
  rw [writeLanes16_of_silent (by simpa using h 0 (by omega)) (h 1 (by omega)), complete_eq_after]

theorem complete_writeLanes32_of_silent (h : ∀ k < 4, Silent s.blk (p + BitVec.ofNat 16 k)) (v : Dword) :
    complete .none (writeLanes32 p v s) = .next (after s s.blk [] .none) := by
  rw [writeLanes32_of_silent (by simpa using h 0 (by omega)) (h 1 (by omega)) (h 2 (by omega)) (h 3 (by omega)),
    complete_eq_after]

end

/-- The byte operations of CONFIG_DATA and of the window are byte accesses at their ports. -/
theorem exec_t1DataRd8_eq (lane : BitVec 2) (s : State) :
    exec (.t1DataRd8 lane) s = complete8 (ioRead8 (configDataPort lane) s) :=
  congrArg complete8 (ioRead8_regPort (.configData lane) s).symm

theorem exec_t1DataWr8_eq (lane : BitVec 2) (v : Byte) (s : State) :
    exec (.t1DataWr8 lane v) s = complete .none (ioWrite8 (configDataPort lane) v s) :=
  congrArg (complete .none) (ioWrite8_regPort (.configData lane) v s).symm

theorem exec_t2WinRd8_eq (dev : BitVec 4) (reg : Byte) (s : State) :
    exec (.t2WinRd8 dev reg) s = complete8 (ioRead8 (windowPort dev reg) s) :=
  congrArg complete8 (ioRead8_regPort (.window dev reg) s).symm

theorem exec_t2WinWr8_eq (dev : BitVec 4) (reg v : Byte) (s : State) :
    exec (.t2WinWr8 dev reg v) s = complete .none (ioWrite8 (windowPort dev reg) v s) :=
  congrArg (complete .none) (ioWrite8_regPort (.window dev reg) v s).symm

end Sys2Proof.Machine
end

section
/-! The statements of CONFIG_DATA and of the window. -/

namespace Sys2Proof.Machine

open Sys2Proof

/-- Settles O22: the byte's port is not answered, or it is one call. -/
theorem configDataByteWrite : Obligations.ConfigDataByteWrite := by
  unfold Obligations.ConfigDataByteWrite
  refine fun s lane v hp => ⟨fun hn => ?_, fun h hen hbus hr => ?_⟩
  · rw [exec_t1DataWr8_eq, complete_ioWrite8_of_silent (configData_silent hn lane)]
  · rw [exec_t1DataWr8_eq, complete_ioWrite8_of_callsDevice (configData_callsDevice hp hen hbus hr lane)]

/-- Settles O23: the lanes up to 0x0CFF call the device, the others are not answered. -/
theorem configDataWideRead : Obligations.ConfigDataWideRead := by
  unfold Obligations.ConfigDataWideRead
  intro s lane h hp hen hbus hr
  simp only [configDataBytes, configDataCalls, ← Nat.lt_sub_iff_add_lt']
  exact ⟨complete16_device (fun k _ hk => configData_lane_callsDevice hp hen hbus hr lane hk)
      (fun k hk hl => configData_lane_silent s.blk lane (by omega) hl),
    complete32_device (fun k _ hk => configData_lane_callsDevice hp hen hbus hr lane hk)
      (fun k hk hl => configData_lane_silent s.blk lane hk hl)⟩

/-- Settles O24: the lanes up to 0x0CFF call the device, the others are not answered. -/
theorem configDataWideWrite : Obligations.ConfigDataWideWrite := by
  unfold Obligations.ConfigDataWideWrite
  intro s lane h hp hen hbus hr
  exact ⟨fun v => complete_writeLanes16_device v (fun k _ hk => configData_lane_callsDevice hp hen hbus hr lane hk)
      (fun k hk hl => configData_lane_silent s.blk lane (by omega) hl),
    fun v => complete_writeLanes32_device v (fun k _ hk => configData_lane_callsDevice hp hen hbus hr lane hk)
      (fun k hk hl => configData_lane_silent s.blk lane hk hl)⟩

/-- Settles O25: behind the closed gate no lane is answered. -/
theorem otherBusIsNotPresent : Obligations.OtherBusIsNotPresent := by
  unfold Obligations.OtherBusIsNotPresent
  intro s lane _ hgate
  have hn : s.blk.caEn = false ∨ s.blk.caBus ≠ 0 ∨ ∀ h, ¬ Reaches s.blk s.blk.caDev h :=
    hgate.elim (fun hbus => .inr (.inl hbus)) .inl
  have silent (k : Nat) (hk : k < 4) := configData_lanes_silent hn lane hk
  have silent2 (k : Nat) (hk : k < 2) := silent k (by omega)
  refine ⟨?_, complete16_of_silent silent2, complete32_of_silent silent, fun v => ?_,
    complete_writeLanes16_of_silent silent2, complete_writeLanes32_of_silent silent⟩
  · rw [exec_t1DataRd8_eq, complete8_of_silent (configData_silent hn lane)]
  · rw [exec_t1DataWr8_eq, complete_ioWrite8_of_silent (configData_silent hn lane)]

/-- Settles O26: no lane is answered where no device is reached, through either mechanism. -/
theorem unboundDeviceReadsAllOnes : Obligations.UnboundDeviceReadsAllOnes := by
  unfold Obligations.UnboundDeviceReadsAllOnes
  refine ⟨fun s lane _ hr => ⟨?_, ?_, ?_⟩, fun s dev reg _ hr => ?_⟩
  · rw [exec_t1DataRd8_eq, complete8_of_silent (configData_silent (.inr (.inr hr)) lane)]
  · exact complete16_of_silent fun k hk => configData_lanes_silent (.inr (.inr hr)) lane (by omega)
  · exact complete32_of_silent fun k hk => configData_lanes_silent (.inr (.inr hr)) lane hk
  · rw [← BitVec.ofNat_toNat] at hr
    have silent (k : Nat) (hk : reg.toNat + k < 256) : Silent s.blk (windowPort dev reg + BitVec.ofNat 16 k) := by
      rw [window_lane dev reg hk]
      exact window_silent (.inr hr) _
    refine ⟨?_, fun h => complete16_of_silent fun k hk => silent k (by omega),
      fun h => complete32_of_silent fun k hk => silent k (by omega)⟩
    rw [exec_t2WinRd8_eq, complete8_of_silent (window_silent (.inr hr) reg)]

/-- Settles O31: the byte's port is not answered, or it is one call. -/
theorem windowByteRead : Obligations.WindowByteRead := by
  unfold Obligations.WindowByteRead
  refine fun s dev reg hw => ⟨fun hn => ?_, fun h hbus hr => ?_⟩
  · rw [exec_t2WinRd8_eq, complete8_of_silent (window_silent hn reg)]
  · rw [exec_t2WinRd8_eq, complete8_of_callsDevice (window_callsDevice hw hbus hr reg)]

/-- Settles O32: the byte's port is not answered, or it is one call. -/
theorem windowByteWrite : Obligations.WindowByteWrite := by
  unfold Obligations.WindowByteWrite
  refine fun s dev reg v hw => ⟨fun hn => ?_, fun h hbus hr => ?_⟩
  · rw [exec_t2WinWr8_eq, complete_ioWrite8_of_silent (window_silent hn reg)]
  · rw [exec_t2WinWr8_eq, complete_ioWrite8_of_callsDevice (window_callsDevice hw hbus hr reg)]

/-- Settles O33: every lane inside the device is a call of it. -/
theorem windowWideAccess : Obligations.WindowWideAccess := by
  unfold Obligations.WindowWideAccess
  intro s dev reg h hw hbus hr
  have calls (k : Nat) (hk : reg.toNat + k < 256) :
      CallsDevice s.blk (windowPort dev reg + BitVec.ofNat 16 k) h s.blk.t2Func (BitVec.ofNat 8 (reg.toNat + k)) := by
    rw [window_lane dev reg hk]
    exact window_callsDevice hw hbus hr _
  refine ⟨fun h2 => ⟨?_, fun v => ?_⟩, fun h4 => ⟨?_, fun v => ?_⟩⟩
  · exact complete16_device (m := 2) (fun k hk _ => calls k (by omega)) (fun k hk hl => by omega)
  · exact complete_writeLanes16_device (m := 2) v (fun k hk _ => calls k (by omega)) (fun k hk hl => by omega)
  · exact complete32_device (m := 4) (fun k hk _ => calls k (by omega)) (fun k hk hl => by omega)
  · exact complete_writeLanes32_device (m := 4) v (fun k hk _ => calls k (by omega)) (fun k hk hl => by omega)

end Sys2Proof.Machine
end

section
/-! SUPPORT. A 16-bit window read that leaves the device (40_config_decoder.md R147), and the numbers of the registers
of the decoder (30_encoding.md R95, R97, R109). -/

namespace Sys2Proof.Machine

open Sys2Proof

/-- After register 0xFF comes register 0 of the next device. -/
theorem windowPort_last_succ {dev : BitVec 4} (hd : dev.toNat < 15) :
    windowPort dev 0xFF + 1 = windowPort (BitVec.ofNat 4 (dev.toNat + 1)) 0 := by
  apply BitVec.eq_of_toNat_eq
  rw [BitVec.toNat_add, windowPort_toNat, windowPort_toNat, BitVec.toNat_ofNat,
    show (1 : Port).toNat = 1 from rfl, show (0xFF : Byte).toNat = 255 from rfl, show (0 : Byte).toNat = 0 from rfl]
  omega

/-- A 16-bit read whose lanes reach two devices: the second answer is the environment's next. -/
theorem complete16_two_devices {p : Port} {s : State} {h h' : Handle} {func func' : BitVec 3} {addr addr' : Byte}
    (h0 : CallsDevice s.blk p h func addr) (h1 : CallsDevice s.blk (p + 1) h' func' addr') :
    complete16 (readLanes16 p s) =
      .next (after s s.blk [.devReadCall h func addr, .devReadCall h' func' addr']
        (.val16 (answerAt s 1 h' func' addr' ++ answerAt s 0 h func addr))) := by
  have lane0 := (h0 s rfl).1
  have lane1 := (h1 (devRead h func addr s).2 rfl).1
  have value : (readLanes16 p s).1 = answerAt s 1 h' func' addr' ++ answerAt s 0 h func addr := by
    simp only [readLanes16, lane0, lane1]
    rfl
  have state : (readLanes16 p s).2 = called [.devReadCall h func addr, .devReadCall h' func' addr'] s := by
    rw [readLanes16_state, lane0, lane1, devRead_eq_called, devRead_eq_called, called_called]
    rfl
  rw [complete16, value, state]
  exact complete_called (by simp [isDevReadCall]) _ s

/-- A 16-bit read whose second lane is not answered. -/
theorem complete16_device_silent {p : Port} {s : State} {h : Handle} {func : BitVec 3} {addr : Byte}
    (h0 : CallsDevice s.blk p h func addr) (h1 : Silent s.blk (p + 1)) :
    complete16 (readLanes16 p s) =
      .next (after s s.blk [.devReadCall h func addr] (.val16 ((0xFF : Byte) ++ answerAt s 0 h func addr))) := by
  have lane0 := (h0 s rfl).1
  have lane1 := (h1 (devRead h func addr s).2 rfl).1
  simp only [readLanes16, lane0, lane1]
  rfl

/-- The fields of CONFIG_ADDRESS, by number (30_encoding.md R95). -/
theorem configAddress_fields (v : Dword) :
    (v.extractLsb' 0 8).toNat = v.toNat % 256 ∧ (v.extractLsb' 8 3).toNat = v.toNat / 2 ^ 8 % 8 ∧
      (v.extractLsb' 11 5).toNat = v.toNat / 2 ^ 11 % 32 ∧ (v.extractLsb' 16 8).toNat = v.toNat / 2 ^ 16 % 256 ∧
      (v.getLsbD 31 = true ↔ 2 ^ 31 ≤ v.toNat) := by
  have field (i n : Nat) : (v.extractLsb' i n).toNat = v.toNat / 2 ^ i % 2 ^ n := by
    rw [BitVec.extractLsb'_toNat, Nat.shiftRight_eq_div_pow]
  refine ⟨?_, field 8 3, field 11 5, field 16 8, ?_⟩
  · simp
  · rw [← BitVec.msb_eq_getLsbD_last v, BitVec.msb_eq_decide, decide_eq_true_iff]

/-- The value of CONFIG_ADDRESS, by number (30_encoding.md R95, R109). -/
theorem configAddress_toNat (b : Block) :
    (configAddress b).toNat =
      b.caEn.toNat * 2 ^ 31 + b.caBus.toNat * 2 ^ 16 + b.caDev.toNat * 2 ^ 11 + b.caFunc.toNat * 2 ^ 8 +
        b.caReg.toNat := by
  simp only [configAddress, toNat_append_fields, BitVec.toNat_ofBool, show (0 : BitVec 7).toNat = 0 from rfl]
  omega

/-- The value of CSE, by number (30_encoding.md R97, R109). -/
theorem cseValue_toNat (b : Block) : (cseValue b).toNat = b.t2Key.toNat * 16 + b.t2Func.toNat * 2 := by
  simp only [cseValue, toNat_append_fields, show (0 : BitVec 1).toNat = 0 from rfl]
  omega

end Sys2Proof.Machine
end

section
/-! SUPPORT. The operations of the decoder's own registers where they are present (40_config_decoder.md sections 2 to
4). -/

namespace Sys2Proof.Machine

open Sys2Proof

/-- An operation that returns the byte of a present register of the block. -/
theorem complete8_readByte {r : ByteReg} {s : State} {v : Byte} (hp : isPresent s.blk r = true)
    (hv : readReg r s = (v, s)) : complete8 (readByte r s) = .next (after s s.blk [] (.val8 v)) := by
  rw [readByte_of_isPresent hp, hv]
  exact complete_eq_after _ s

/-- `T2.CSE.WR` while the Type 2 ports are present (40_config_decoder.md R141). -/
theorem exec_t2CseWr {s : State} (v : Byte) (hp : t2Ports s.blk = true) :
    exec (.t2CseWr v) s = .next (after s (writeCse v s.blk) [] .none) :=
  (congrArg (complete .none) (writeByte_of_isPresent (r := .cse) v hp)).trans (complete_withBlock _ _ s)

/-- `T2.CSE.RD` while the Type 2 ports are present (40_config_decoder.md R142). -/
theorem exec_t2CseRd {s : State} (hp : t2Ports s.blk = true) :
    exec .t2CseRd s = .next (after s s.blk [] (.val8 (cseValue s.blk))) :=
  complete8_readByte (r := .cse) hp rfl

/-- `PMC.WR` on a Type 2 machine (40_config_decoder.md R150). -/
theorem exec_pmcWr {s : State} (v : Byte) (hp : pmcPresent s.blk = true) :
    exec (.pmcWr v) s = .next (after s (writePmc v s.blk) [] .none) :=
  (congrArg (complete .none) (writeByte_of_isPresent (r := .pmc) v hp)).trans (complete_withBlock _ _ s)

/-- `PMC.RD` on a Type 2 machine (40_config_decoder.md R151). -/
theorem exec_pmcRd {s : State} (hp : pmcPresent s.blk = true) :
    exec .pmcRd s = .next (after s s.blk [] (.val8 (pmcValue s.blk))) :=
  complete8_readByte (r := .pmc) hp rfl

/-- The value of PMC is its one bit (40_config_decoder.md R151). -/
theorem pmcValue_eq (b : Block) : pmcValue b = if b.pmc then 1 else 0 := by
  rw [pmcValue]
  cases b.pmc <;> rfl

/-- What CSE keeps of a byte (30_encoding.md R97). -/
theorem cseValue_writeCse (v : Byte) (b : Block) : cseValue (writeCse v b) = v &&& 0xFE := by
  have keeps : v.extractLsb' 4 4 ++ v.extractLsb' 1 3 ++ (0 : BitVec 1) = v &&& 0xFE := by revert v; decide
  exact keeps

/-- What PMC keeps of a byte (40_config_decoder.md R150). -/
theorem pmcValue_writePmc (v : Byte) (b : Block) : pmcValue (writePmc v b) = v &&& 0x01 := by
  have keeps : (BitVec.ofBool (v.getLsbD 0)).setWidth 8 = v &&& 0x01 := by revert v; decide
  exact keeps

end Sys2Proof.Machine
end

section
/-! The statements of the configuration decoder's registers. -/

namespace Sys2Proof.Machine

open Sys2Proof

/-- Settles O34: the second lane is register 0 of the next device, or port 0xD000, where no register stands. -/
theorem windowReadCrossesDevices : Obligations.WindowReadCrossesDevices := by
  unfold Obligations.WindowReadCrossesDevices
  refine fun s dev h hw hbus hr => ⟨fun h' hd hr' => ?_, fun hd => ?_⟩
  · refine complete16_two_devices (window_callsDevice hw hbus hr 0xFF) ?_
    rw [windowPort_last_succ hd]
    refine window_callsDevice hw hbus ?_ 0
    rwa [BitVec.toNat_ofNat, Nat.mod_eq_of_lt (show dev.toNat + 1 < 2 ^ 4 by omega)]
  · subst hd
    exact complete16_device_silent (window_callsDevice hw hbus hr 0xFF) (silent_of_none _ (by decide))

/-- Settles O19: the five fields of the written value are those the latch takes. -/
theorem configAddressWriteLatchesFiveFields : Obligations.ConfigAddressWriteLatchesFiveFields := by
  unfold Obligations.ConfigAddressWriteLatchesFiveFields
  intro s v hp
  obtain ⟨hreg, hfunc, hdev, hbus, hen⟩ := configAddress_fields v
  exact ⟨_, _, _, _, _, (exec_t1AddrWr hp v).trans (complete_withBlock .none (latchAddress v s.blk) s),
    hreg, hfunc, hdev, hbus, hen⟩

/-- Settles O20: the five fields joined, with zeros between. -/
theorem configAddressReadGivesTheLatch : Obligations.ConfigAddressReadGivesTheLatch := by
  unfold Obligations.ConfigAddressReadGivesTheLatch
  exact fun s hp => ⟨configAddress s.blk, (exec_t1AddrRd hp).trans (complete_eq_after _ s), configAddress_toNat s.blk⟩

/-- Settles O27: the two fields of the byte; the Type 2 ports stay, so the window is open by the key alone. -/
theorem cseWriteSetsKeyAndFunction : Obligations.CseWriteSetsKeyAndFunction := by
  unfold Obligations.CseWriteSetsKeyAndFunction
  intro s v hp
  have hv := v.isLt
  refine ⟨BitVec.ofNat 4 (v.toNat / 16), BitVec.ofNat 3 (v.toNat / 2), ?_, ?_, ?_, ?_⟩
  · rw [exec_t2CseWr v hp, writeCse_eq]
  · rw [BitVec.toNat_ofNat]; omega
  · rw [BitVec.toNat_ofNat]
  · have key : BitVec.ofNat 4 (v.toNat / 16) ≠ 0 ↔ 16 ≤ v.toNat := by
      rw [ne_eq, BitVec.toNat_eq, BitVec.toNat_ofNat, show (0 : BitVec 4).toNat = 0 from rfl]
      omega
    rw [windowOpen_iff, ← key]
    exact and_iff_right hp

/-- Settles O29: each register is read as its field holds it. -/
theorem ownRegistersRead : Obligations.OwnRegistersRead := by
  unfold Obligations.OwnRegistersRead
  refine fun s => ⟨fun hp => ?_, fun hp => ?_, fun hi hm => ?_, fun hi => ⟨?_, ?_, ?_⟩⟩
  · exact ⟨cseValue s.blk, cseValue_toNat s.blk, exec_t2CseRd hp⟩
  · exact complete8_readByte (r := .bus) hp rfl
  · rw [exec_pmcRd ((pmcPresent_iff s.blk).2 ⟨hi, hm⟩), pmcValue_eq]
  · exact complete8_readByte (r := .elcr 0) hi rfl
  · exact complete8_readByte (r := .elcr 1) hi rfl
  · exact ⟨s.blk.trc &&& s.params.trcReadMask, fun k _ => BitVec.getLsbD_and, complete8_readByte (r := .trc) hi rfl⟩

/-- Settles O30: a write leaves the register present, and the read joins the fields it kept. -/
theorem cseAndPmcReadBack : Obligations.CseAndPmcReadBack := by
  unfold Obligations.CseAndPmcReadBack
  refine fun s v => ⟨fun hp => ⟨_, exec_t2CseWr v hp, ?_⟩, fun hi hm => ?_⟩
  · have present : t2Ports (after s (writeCse v s.blk) [] .none).blk = true := hp
    rw [exec_t2CseRd present, ← cseValue_writeCse v s.blk]
    rfl
  · have hp := (pmcPresent_iff s.blk).2 ⟨hi, hm⟩
    have present : pmcPresent (after s (writePmc v s.blk) [] .none).blk = true := hp
    refine ⟨_, exec_pmcWr v hp, ?_⟩
    rw [exec_pmcRd present, ← pmcValue_writePmc v s.blk]
    rfl

/-- Settles O35: the write clears the latch and the Type 2 fields, so the key is 0, and its bit 0 selects the ports. -/
theorem pmcWriteSwitchesPorts : Obligations.PmcWriteSwitchesPorts := by
  unfold Obligations.PmcWriteSwitchesPorts
  intro s v hi hm
  refine ⟨_, rfl, ?_, ?_, ?_, ?_⟩
  · rw [exec_pmcWr v ((pmcPresent_iff s.blk).2 ⟨hi, hm⟩), writePmc_eq]
    rfl
  · simp [t1Ports_iff, hi, hm]
  · simp [t2Ports_iff, hi, hm]
  · simp [windowOpen]

end Sys2Proof.Machine
end

section
/-! SUPPORT. The ELCR, the level query, the resets and TRC as outcomes (43_elcr_trc.md; 42_interrupt_router.md R212). -/

namespace Sys2Proof.Machine

open Sys2Proof

/-- An operation that completes after events other than device reads, and with another block. -/
theorem complete_emitted {r : Result} {s s' : State} {es : List Event} (hparams : s'.params = s.params)
    (hpending : s'.pending = s.pending) (henv : s'.env = s.env) (htrace : s'.trace = s.trace ++ es.map .event)
    (hk : ∀ e ∈ es, isDevReadCall e = false) : complete r s' = .next (after s s'.blk es r) := by
  have none : es.countP isDevReadCall = 0 := List.countP_eq_zero.2 fun e he => by simp [hk e he]
  rw [after, none, ← hparams, ← hpending, Nat.add_zero, ← henv, ← htrace]
  rfl

/-- `ELCR.WR` once initialised (43_elcr_trc.md R241). -/
theorem exec_elcrWr {s : State} (reg : BitVec 1) (v : Byte) (hi : s.blk.initialised = true) :
    exec (.elcrWr reg v) s = .next (after s (writeElcr reg v s.blk) [] .none) :=
  (congrArg (complete .none) (writeByte_of_isPresent (r := .elcr reg) v hi)).trans (complete_withBlock _ _ s)

/-- The masks of the ELCR registers, by bit (43_elcr_trc.md R241). -/
theorem elcr_mask_bits : ∀ n < 8, (0xF8 : Byte).getLsbD n = decide (3 ≤ n) ∧
    (0xDE : Byte).getLsbD n = decide (n ≠ 0 ∧ n ≠ 5) := by decide

/-- `IRQ_IS_LEVEL` of a line (42_interrupt_router.md R212). -/
theorem exec_irqIsLevel {s : State} {irq : Byte} {q : Fin 16} (hi : s.blk.initialised = true)
    (hq : irq.toNat = q.val) : exec (.irqIsLevel irq) s = complete (.bit (isLevel q s).1) (isLevel q s).2 := by
  simp only [exec, execIrqIsLevel, hi, if_true, (irqLine_eq_some irq q).2 hq]

/-- `IRQ_IS_LEVEL` above 15 is refused (30_encoding.md R108). -/
theorem exec_irqIsLevel_of_ge {s : State} {irq : Byte} (hi : s.blk.initialised = true) (hq : 16 ≤ irq.toNat) :
    exec (.irqIsLevel irq) s = .next (after s s.blk [] .none) := by
  have none : irqLine irq = none := dif_neg (by omega)
  simp only [exec, execIrqIsLevel, hi, if_true, none]
  exact refuse_eq_after s

/-- The lines hardwired to edge, by number (42_interrupt_router.md R212). -/
theorem hardwiredEdge_iff (q : Fin 16) : hardwiredEdge q = true ↔ q.val ∈ [0, 1, 2, 8, 13] := by
  revert q; decide

/-- The ELCR bit of a line when both registers are clear. -/
theorem elcrBit_of_zero {b : Block} (h0 : b.elcr0 = 0) (h1 : b.elcr1 = 0) (q : Fin 16) : elcrBit q b = false := by
  rw [elcrBit, h0, h1]
  split <;> exact BitVec.getLsbD_zero

/-- `RESET` once initialised (43_elcr_trc.md R251). -/
theorem exec_reset {s : State} (hi : s.blk.initialised = true) :
    exec .reset s = .next (after s (subsystemReset s).blk ((heldLines s.blk).map .picClear) .none) :=
  (if_pos hi).trans
    (complete_emitted rfl rfl rfl (subsystemReset_trace s) (List.forall_mem_map.2 fun _ _ => rfl))

/-- The events of a TRC reset that runs the cascade (43_elcr_trc.md R247, R249). -/
def cascadeEvents (b : Block) : List Event :=
  [.strobe .dmaReset, .strobe .deviceResetAll, .strobe .cpuAltResetClear] ++ (heldLines b).map .picClear ++
    [.strobe .kbcReset, .strobe .a20Reset, .strobe .mmuFlush, .strobe .cpuReset]

section
variable {s : State} {v : Byte} (hi : s.blk.initialised = true)
include hi

/-- `TRC.WR8` once initialised (43_elcr_trc.md R247). -/
theorem exec_trcWr8 : exec (.trcWr8 v) s = complete .none (writeTrc v s) :=
  congrArg (complete .none) (writeByte_of_isPresent (r := .trc) v hi)

/-- A byte write of TRC that fires nothing. -/
theorem exec_trcWr8_quiet (hf : trcFires v s.blk = false) :
    exec (.trcWr8 v) s = .next (after s { s.blk with trc := trcStored v } [] .none) := by
  obtain ⟨-, h⟩ | ⟨hf', -⟩ | ⟨hf', -⟩ := writeTrc_cases v s
  · rw [exec_trcWr8 hi, h, complete_withBlock]
  · rw [hf] at hf'; cases hf'
  · rw [hf] at hf'; cases hf'

/-- A byte write of TRC that resets the CPU alone. -/
theorem exec_trcWr8_cpu (hf : trcFires v s.blk = true) (hc : (v.getLsbD 1 || s.params.trcSoftResetCascades) = false) :
    exec (.trcWr8 v) s = .next (after s { s.blk with trc := trcStored v } [.strobe .cpuReset] .none) := by
  obtain ⟨hf', -⟩ | ⟨-, -, h⟩ | ⟨-, hc', -⟩ := writeTrc_cases v s
  · rw [hf] at hf'; cases hf'
  · rw [exec_trcWr8 hi, h]
    rfl
  · rw [hc] at hc'; cases hc'

/-- A byte write of TRC that runs the cascade. -/
theorem exec_trcWr8_cascade (hf : trcFires v s.blk = true)
    (hc : (v.getLsbD 1 || s.params.trcSoftResetCascades) = true) :
    exec (.trcWr8 v) s =
      .next (after s { (subsystemReset s).blk with trc := trcStored v } (cascadeEvents s.blk) .none) := by
  obtain ⟨hf', -⟩ | ⟨-, hc', -⟩ | ⟨-, -, h⟩ := writeTrc_cases v s
  · rw [hf] at hf'; cases hf'
  · rw [hc] at hc'; cases hc'
  · rw [exec_trcWr8 hi, h]
    refine complete_emitted rfl rfl rfl ?_ ?_
    · rw [withBlock_trace, emit_trace, cascade_trace]
      simp [cascadeEvents]
    · exact List.forall_mem_append.2
        ⟨List.forall_mem_append.2 ⟨by decide, List.forall_mem_map.2 fun _ _ => rfl⟩, by decide⟩

/-- Whatever a byte write of TRC fires, the block stays initialised and TRC holds the stored byte. -/
theorem exec_trcWr8_stores : ∃ (b : Block) (es : List Event), exec (.trcWr8 v) s = .next (after s b es .none) ∧
    b.initialised = true ∧ b.trc = trcStored v := by
  cases hf : trcFires v s.blk
  · exact ⟨_, _, exec_trcWr8_quiet hi hf, hi, rfl⟩
  · cases hc : (v.getLsbD 1 || s.params.trcSoftResetCascades)
    · exact ⟨_, _, exec_trcWr8_cpu hi hf hc, hi, rfl⟩
    · exact ⟨_, _, exec_trcWr8_cascade hi hf hc, hi, rfl⟩

end

/-- A write fires when it raises bit 2 (43_elcr_trc.md R247). -/
theorem trcFires_iff (v : Byte) (b : Block) :
    trcFires v b = true ↔ b.trc.getLsbD 2 = false ∧ v.getLsbD 2 = true := by
  simp [trcFires]

/-- What a write leaves in TRC, by bit (43_elcr_trc.md R247). -/
theorem getLsbD_trcStored (v : Byte) : ∀ k < 8,
    (trcStored v).getLsbD k = (v.getLsbD k && !(decide (k = 2) && v.getLsbD 1)) := by
  revert v; decide

end Sys2Proof.Machine
end

section
/-! The statements of ELCR, TRC and `RESET`. -/

namespace Sys2Proof.Machine

open Sys2Proof

/-- Settles O36: each register takes the byte under its mask. -/
theorem elcrWriteKeepsFixedBits : Obligations.ElcrWriteKeepsFixedBits := by
  unfold Obligations.ElcrWriteKeepsFixedBits
  refine fun s v hi =>
    ⟨⟨v &&& 0xF8, exec_elcrWr 0 v hi, fun n hn => ?_⟩, ⟨v &&& 0xDE, exec_elcrWr 1 v hi, fun n hn => ?_⟩⟩
  · rw [BitVec.getLsbD_and, (elcr_mask_bits n hn).1]
  · rw [BitVec.getLsbD_and, (elcr_mask_bits n hn).2]

/-- Settles O37: the flag is the one field written. -/
theorem elcrSetEnabledWritesTheFlag : Obligations.ElcrSetEnabledWritesTheFlag := by
  unfold Obligations.ElcrSetEnabledWritesTheFlag
  exact fun s en hi => (if_pos hi).trans (complete_withBlock .none _ s)

/-- Settles O38: a hardwired line is edge; else the ELCR or the 8259 is asked; above 15 there is no line. -/
theorem irqIsLevelAnswers : Obligations.IrqIsLevelAnswers := by
  unfold Obligations.IrqIsLevelAnswers
  intro s irq hi
  refine ⟨fun hedge => ?_, fun hedge hen => ⟨fun hlt => ?_, fun hge hlt => ?_⟩, fun hedge hlt hen => ?_,
    exec_irqIsLevel_of_ge hi⟩
  · have hq : irq.toNat = (⟨irq.toNat, by simp at hedge; omega⟩ : Fin 16).val := rfl
    rw [exec_irqIsLevel hi hq, isLevel, if_pos ((hardwiredEdge_iff _).2 hedge), complete_eq_after]
  · have hq : irq.toNat = (⟨irq.toNat, by omega⟩ : Fin 16).val := rfl
    rw [exec_irqIsLevel hi hq, isLevel, if_neg (mt (hardwiredEdge_iff _).1 hedge), if_pos hen, elcrBit, if_pos hlt,
      complete_eq_after]
  · have hq : irq.toNat = (⟨irq.toNat, hlt⟩ : Fin 16).val := rfl
    rw [exec_irqIsLevel hi hq, isLevel, if_neg (mt (hardwiredEdge_iff _).1 hedge), if_pos hen, elcrBit,
      if_neg (Nat.not_lt.2 hge), complete_eq_after]
  · have hq : irq.toNat = (⟨irq.toNat, hlt⟩ : Fin 16).val := rfl
    rw [exec_irqIsLevel hi hq, isLevel, if_neg (mt (hardwiredEdge_iff _).1 hedge), if_neg (by simp [hen])]
    exact complete_eq_after _ _

/-- Settles O40: the wide rows of TRC are native once initialised. -/
theorem trcWideWritesAreIgnored : Obligations.TrcWideWritesAreIgnored := by
  unfold Obligations.TrcWideWritesAreIgnored
  refine fun s hi => ⟨fun v => ?_, fun v => ?_⟩
  · rw [exec_trcWr16 hi, complete_eq_after]
  · rw [exec_trcWr32 hi, complete_eq_after]

/-- Settles O41: the lines are the held ones. -/
theorem subsystemResetClears : Obligations.SubsystemResetClears := by
  unfold Obligations.SubsystemResetClears
  exact fun s hi => ⟨heldLines s.blk, fun q => mem_heldLines q s.blk, heldLines_ascending s.blk, exec_reset hi⟩

/-- Settles O42: the three things a byte write does, by whether it fires and whether it runs the cascade. -/
theorem trcByteWrite : Obligations.TrcByteWrite := by
  unfold Obligations.TrcByteWrite
  refine fun s v hi => ⟨trcStored v, getLsbD_trcStored v, fun h => ?_, fun ht h2 h1 hp => ?_, fun ht h2 hc => ?_⟩
  · refine exec_trcWr8_quiet hi (Bool.eq_false_iff.2 fun hf => ?_)
    obtain ⟨ht, h2⟩ := (trcFires_iff v s.blk).1 hf
    exact h.elim (fun h => Bool.false_ne_true (ht.symm.trans h)) (fun h => Bool.false_ne_true (h.symm.trans h2))
  · exact exec_trcWr8_cpu hi ((trcFires_iff v s.blk).2 ⟨ht, h2⟩) (by rw [h1, hp]; rfl)
  · exact ⟨heldLines s.blk, fun q => mem_heldLines q s.blk, heldLines_ascending s.blk,
      exec_trcWr8_cascade hi ((trcFires_iff v s.blk).2 ⟨ht, h2⟩) (Bool.or_eq_true_iff.2 hc)⟩

/-- Settles O43: after the first write TRC holds bit 2 unless bit 1 was written, so only then does the second fire. -/
theorem trcRearmsOnlyByFullReset : Obligations.TrcRearmsOnlyByFullReset := by
  unfold Obligations.TrcRearmsOnlyByFullReset
  intro s v hi h2
  obtain ⟨b, es, ht, hbi, hbt⟩ := exec_trcWr8_stores (v := v) hi
  have hti : (after s b es .none).blk.initialised = true := hbi
  have fires : trcFires v (after s b es .none).blk = v.getLsbD 1 := by
    have bit : b.trc.getLsbD 2 = (v.getLsbD 2 && !v.getLsbD 1) := by
      rw [hbt, getLsbD_trcStored v 2 (by omega)]; simp
    rw [after, trcFires, bit, h2]
    simp
  cases h1 : v.getLsbD 1 with
  | false =>
    refine ⟨_, _, ht, exec_trcWr8_quiet hti (fires.trans h1), fun _ => eventsSince_after _ _ _ _, nofun⟩
  | true =>
    refine ⟨_, _, ht, exec_trcWr8_cascade hti (fires.trans h1) (by rw [h1]; rfl), nofun, fun _ => ?_⟩
    rw [eventsSince_after]
    simp [cascadeEvents]

/-- Settles O44: the cascade runs, and with `elcr_en` set only the cleared ELCR registers are asked. -/
theorem hardResetLeavesEveryLineEdge : Obligations.HardResetLeavesEveryLineEdge := by
  unfold Obligations.HardResetLeavesEveryLineEdge
  intro s v irq hi ht h2 h1 hirq
  refine ⟨_, exec_trcWr8_cascade hi ((trcFires_iff v s.blk).2 ⟨ht, h2⟩) (by rw [h1]; rfl), fun q => ?_, rfl, rfl,
    fun hen => ?_⟩
  · simp [after, subsystemReset_blk]
  · generalize ht : after s _ _ Result.none = t
    have hti : t.blk.initialised = true := by rw [← ht]; exact hi
    have hten : t.blk.elcrEn = true := by rw [← ht]; exact hen
    have h0 : t.blk.elcr0 = 0 := by rw [← ht]; rfl
    have h1 : t.blk.elcr1 = 0 := by rw [← ht]; rfl
    rw [exec_irqIsLevel hti (q := ⟨irq.toNat, hirq⟩) rfl, isLevel]
    by_cases hedge : hardwiredEdge ⟨irq.toNat, hirq⟩ = true
    · rw [if_pos hedge, complete_eq_after]
    · rw [if_neg hedge, if_pos hten, elcrBit_of_zero h0 h1, complete_eq_after]

end Sys2Proof.Machine
end

section
/-! SUPPORT. The registry's operations by the numbers of their operands (30_encoding.md R106, R107;
41_slot_registry.md). -/

namespace Sys2Proof.Machine

open Sys2Proof

/-- The mechanism of `INIT`'s type, by number (30_encoding.md R106). -/
theorem initMech_eq (type : Byte) :
    initMech type = if type.toNat % 4 = 1 then some .t1 else if type.toNat % 4 = 2 then some .t2 else none := by
  revert type; decide

/-- The flag of `INIT`'s type, by number (30_encoding.md R106). -/
theorem initNoSteer_eq (type : Byte) : initNoSteer type = decide (128 ≤ type.toNat) := by
  revert type; decide

/-- A class operand above 6 is none (30_encoding.md R107). -/
theorem slotClass_eq_none (v : Byte) : 6 < v.toNat → slotClass v = none := by
  revert v; decide

/-- A wiring operand above 4 is none (30_encoding.md R107). -/
theorem pinRoute_eq_none (v : Byte) : 4 < v.toNat → pinRoute v = none := by
  revert v; decide

/-- A device number operand above 31 is none (30_encoding.md R107). -/
theorem deviceNumber_eq_none {v : Byte} (h : 31 < v.toNat) : deviceNumber v = none := dif_neg (by omega)

/-- Operands by their numbers give the descriptor (41_slot_registry.md R181). -/
theorem slotOf_of_numbers {device cls inta intb intc intd : Byte} {d : Fin 32} {c : SlotClass} {ra rb rc rd : PinRoute}
    (hd : device.toNat = d.val) (hc : classNumbers[cls.toNat]? = some c) (ha : wiringNumbers[inta.toNat]? = some ra)
    (hb : wiringNumbers[intb.toNat]? = some rb) (hcc : wiringNumbers[intc.toNat]? = some rc)
    (hdd : wiringNumbers[intd.toNat]? = some rd) :
    slotOf device cls inta intb intc intd =
      some (d, { id := device, cls := some c, route := #v[ra, rb, rc, rd], dev := none }) := by
  simp only [slotOf, (deviceNumber_eq_some device d).2 hd, slotClass_of_number cls c hc, pinRoute_of_number _ _ ha,
    pinRoute_of_number _ _ hb, pinRoute_of_number _ _ hcc, pinRoute_of_number _ _ hdd]

/-- An operand outside its domain gives no descriptor (30_encoding.md R107). -/
theorem slotOf_eq_none {device cls inta intb intc intd : Byte}
    (h : 31 < device.toNat ∨ 6 < cls.toNat ∨ 4 < inta.toNat ∨ 4 < intb.toNat ∨ 4 < intc.toNat ∨ 4 < intd.toNat) :
    slotOf device cls inta intb intc intd = none := by
  unfold slotOf
  split
  next hd hc ha hb hcc hdd =>
    obtain h | h | h | h | h | h := h
    · rw [deviceNumber_eq_none h] at hd; cases hd
    · rw [slotClass_eq_none cls h] at hc; cases hc
    · rw [pinRoute_eq_none inta h] at ha; cases ha
    · rw [pinRoute_eq_none intb h] at hb; cases hb
    · rw [pinRoute_eq_none intc h] at hcc; cases hcc
    · rw [pinRoute_eq_none intd h] at hdd; cases hdd
  · rfl

/-- `REGISTER_SLOT` of a descriptor on a table that is not full (41_slot_registry.md R181). -/
theorem exec_registerSlot {s : State} {device cls inta intb intc intd : Byte} {d : Fin 32} {slot : Slot}
    (hi : s.blk.initialised = true) (hs : slotOf device cls inta intb intc intd = some (d, slot))
    (hn : s.blk.nslots < 32) :
    exec (.registerSlot device cls inta intb intc intd) s =
      .next (after s (appendSlot ⟨s.blk.nslots, hn⟩ d slot s.blk) [] .none) := by
  simp only [exec, execRegisterSlot, hi, if_true, hs, dif_pos hn]
  exact complete_withBlock _ _ s

/-- `ADD_CARD` that finds a free slot (41_slot_registry.md R183). -/
theorem exec_addCard {s : State} {addType : Byte} {h : Handle} {a : AddType} {i : Fin 32}
    (hi : s.blk.initialised = true) (ha : addTypeOf addType = some a) (hf : freeSlot a s.blk = some i) :
    exec (.addCard addType h) s = .next (after s (bindSlot i h s.blk) [] (.val8 s.blk.slots[i].id)) := by
  simp only [exec, execAddCard, hi, if_true, ha, hf]
  exact complete_withBlock _ _ s

/-- `ADD_CARD` that finds none, or whose number is no add type (41_slot_registry.md R183). -/
theorem exec_addCard_fails {s : State} {addType : Byte} {h : Handle}
    (hf : ∀ a, addTypeOf addType = some a → freeSlot a s.blk = none) :
    exec (.addCard addType h) s = .next (after s s.blk [] (.val8 0xFF)) := by
  simp only [exec, execAddCard]
  split
  · split
    · exact complete_eq_after _ s
    next a ha =>
      rw [hf a ha]
      exact complete_eq_after _ s
  · exact complete_eq_after _ s

/-- What matches the operand's add type is what its number matches. -/
theorem matchesSlot_of_addTypeOf {v : Byte} {a : AddType} (ha : addTypeOf v = some a) (slot : Slot) :
    matchesSlot a slot = true ↔ MatchesNumber v.toNat slot := by
  rw [matchesNumber_iff, ha]
  simp

/-- No slot matches a number that is no add type (30_encoding.md R107). -/
theorem not_matchesNumber {n : Nat} (h : (32 ≤ n ∧ n < 0x80) ∨ 0x87 ≤ n) (slot : Slot) : ¬ MatchesNumber n slot := by
  rintro (⟨hlt, -⟩ | ⟨c, hge, hc, -⟩)
  · omega
  · have hlen : n - 0x80 < 7 := (List.getElem?_eq_some_iff.1 hc).1
    omega

/-- The first slot of the finite range that meets a test. -/
theorem find_finRange_eq_some {n : Nat} {p : Fin n → Bool} {i : Fin n} (hi : p i = true) (hlt : ∀ j < i, p j = false) :
    (List.finRange n).find? p = some i := by
  rw [List.find?_eq_some_iff_getElem]
  exact ⟨hi, i.val, by simp, by simp, fun j hj => by simpa using hlt ⟨j, by omega⟩ hj⟩

/-- The free slot is the first registered, unbound one that matches (41_slot_registry.md R183). -/
theorem freeSlot_eq_some {a : AddType} {b : Block} {i : Fin 32} (hr : i.val < b.nslots) (hu : b.slots[i].dev = none)
    (hm : matchesSlot a b.slots[i] = true)
    (hfirst : ∀ j < i, b.slots[j].dev ≠ none ∨ ¬ matchesSlot a b.slots[j] = true) : freeSlot a b = some i := by
  have test (j : Fin 32) : (decide (j.val < b.nslots) && b.slots[j].dev.isNone && matchesSlot a b.slots[j]) = true ↔
      j.val < b.nslots ∧ b.slots[j].dev = none ∧ matchesSlot a b.slots[j] = true := by
    simp [and_assoc]
  refine find_finRange_eq_some ((test i).2 ⟨hr, hu, hm⟩) fun j hj => Bool.eq_false_iff.2 fun hfree => ?_
  obtain ⟨-, hju, hjm⟩ := (test j).1 hfree
  exact (hfirst j hj).elim (· hju) (· hjm)

/-- There is no free slot where every registered one is bound or does not match. -/
theorem freeSlot_eq_none {a : AddType} {b : Block}
    (h : ∀ j : Fin 32, j.val < b.nslots → b.slots[j].dev ≠ none ∨ ¬ matchesSlot a b.slots[j] = true) :
    freeSlot a b = none := by
  cases hf : freeSlot a b with
  | none => rfl
  | some i =>
    obtain ⟨hr, hu, hm⟩ := freeSlot_spec hf
    exact ((h i hr).elim (· hu) (· hm)).elim

end Sys2Proof.Machine
end

section
/-! The statements of the slot registry. -/

namespace Sys2Proof.Machine

open Sys2Proof

/-- Settles O45: the type's two fields, by number. -/
theorem initSetsEveryField : Obligations.InitSetsEveryField := by
  unfold Obligations.InitSetsEveryField
  refine fun s type => ⟨fun mech h => ?_, fun h => ?_⟩
  · have hm : initMech type = some mech := by
      rw [initMech_eq]
      obtain ⟨ht, rfl⟩ | ⟨ht, rfl⟩ := h <;> simp [ht]
    simp only [exec, execInit, hm, ← initNoSteer_eq]
    exact complete_withBlock _ _ s
  · have hm : initMech type = none := by
      rw [initMech_eq, if_neg (by omega), if_neg (by omega)]
    simp only [exec, execInit, hm]
    exact refuse_eq_after s

/-- Settles O46: the descriptor stands at the end of the table, and its device number maps to it. -/
theorem registerSlotAppends : Obligations.RegisterSlotAppends := by
  unfold Obligations.RegisterSlotAppends
  intro s device cls inta intb intc intd c ra rb rc rd hi _ hc ha hb hcc hdd i d hn hd
  have hlt : s.blk.nslots < 32 := by omega
  obtain rfl : i = ⟨s.blk.nslots, hlt⟩ := Fin.ext hn.symm
  refine ⟨_, exec_registerSlot hi (slotOf_of_numbers hd hc ha hb hcc hdd) hlt,
    ?_, fun j hj => ?_, ?_, fun e he => ?_, rfl, rfl⟩
  · simp
  · simp [(Fin.val_ne_of_ne hj).symm]
  · simp
  · simp [(Fin.val_ne_of_ne he).symm]

/-- Settles O47: an operand outside its domain gives no descriptor, and a full table takes none. -/
theorem registerSlotRefuses : Obligations.RegisterSlotRefuses := by
  unfold Obligations.RegisterSlotRefuses
  intro s device cls inta intb intc intd hi h
  simp only [exec, execRegisterSlot, hi, if_true]
  split
  · exact refuse_eq_after s
  next hs =>
    have full : s.blk.nslots = 32 := by
      by_contra hn
      rw [slotOf_eq_none (by tauto)] at hs
      cases hs
    rw [dif_neg (by omega)]
    exact refuse_eq_after s

/-- Settles O48: the slot given is the free slot of the operand's add type. -/
theorem addCardBindsTheFirstMatch : Obligations.AddCardBindsTheFirstMatch := by
  unfold Obligations.AddCardBindsTheFirstMatch
  intro s addType h i hi hr hu hm hfirst
  obtain ⟨a, ha, hma⟩ := (matchesNumber_iff addType _).1 hm
  have hf : freeSlot a s.blk = some i :=
    freeSlot_eq_some hr hu hma fun j hj => (hfirst j hj).imp_right (mt (matchesSlot_of_addTypeOf ha _).1)
  refine ⟨_, exec_addCard hi ha hf, ?_, fun j hj => ?_, rfl⟩
  · simp
  · simp [(Fin.val_ne_of_ne hj).symm]

/-- Settles O49: no add type, or no free slot of it. -/
theorem addCardFailsWithNoFreeSlot : Obligations.AddCardFailsWithNoFreeSlot := by
  unfold Obligations.AddCardFailsWithNoFreeSlot
  intro s addType h hnone
  refine exec_addCard_fails fun a ha => freeSlot_eq_none fun j hj => ?_
  rw [matchesSlot_of_addTypeOf ha]
  obtain hgap | hgap | hfree := hnone
  · exact .inr (not_matchesNumber (.inl hgap) _)
  · exact .inr (not_matchesNumber (.inr hgap) _)
  · exact hfree j hj

end Sys2Proof.Machine
end

section
/-! SUPPORT. `Resolve` where it gives no line or asks the card, the clear algorithm on a line not held, and the
entries of the router's tables by number (42_interrupt_router.md; 30_encoding.md R108). -/

namespace Sys2Proof.Machine

open Sys2Proof

/-- A pin operand outside 1-4 is none (30_encoding.md R108). -/
theorem intIndex_eq_none (v : Byte) : v.toNat = 0 ∨ 4 < v.toNat → intIndex v = none := by
  revert v; decide

/-- A mirror-IRQ number, by number (30_encoding.md R108). -/
theorem mirqIndex_eq_some {v : Byte} {m : Fin 3} (h : v.toNat = m.val) : mirqIndex v = some m := by
  rw [mirqIndex, dif_pos (by omega)]
  exact congrArg some (Fin.ext h)

/-- A mirror-IRQ number above 2 is none (30_encoding.md R108). -/
theorem mirqIndex_eq_none {v : Byte} (h : 2 < v.toNat) : mirqIndex v = none := dif_neg (by omega)

/-- An IRQ number above 15 is no line (30_encoding.md R108). -/
theorem irqLine_eq_none {v : Byte} (h : 15 < v.toNat) : irqLine v = none := dif_neg (by omega)

/-- `Resolve` gave no line and asked nobody. -/
def Unresolved (card pin : Byte) (s : State) : Prop :=
  resolve card pin s = (.refuse, s) ∨ resolve card pin s = (.nothing, s)

/-- A pin that is not wired resolves to nothing (42_interrupt_router.md R203). -/
theorem unresolved_of_not_wired {s : State} {card pin : Byte} (h : ∀ i r, ¬ WiredTo s.blk card pin i r) :
    Unresolved card pin s := by
  unfold Unresolved resolve
  split
  case isFalse => exact .inr rfl
  case isTrue hinit =>
    split
    · exact .inl rfl
    next k hk =>
      split
      · exact .inr rfl
      next d hd =>
        split
        · exact .inr rfl
        next i hi =>
          split
          · exact .inr rfl
          next r hr =>
            have hpin := (intIndex_eq_some pin k).1 hk
            have hcard := (deviceNumber_eq_some card d).1 hd
            exact absurd ⟨hinit, k, d, hpin, hcard, hi, hr⟩ (h i r)

/-- `SET_IRQ` and `CLEAR_IRQ` of what does not resolve do nothing (42_interrupt_router.md R206, R207). -/
theorem Unresolved.exec {s : State} {card pin : Byte} (h : Unresolved card pin s) :
    Machine.exec (.setIrq card pin) s = .next (after s s.blk [] .none) ∧
      Machine.exec (.clearIrq card pin) s = .next (after s s.blk [] .none) := by
  obtain h | h := h <;> simp only [Machine.exec, execSetIrq, execClearIrq, h] <;>
    exact ⟨complete_eq_after _ s, complete_eq_after _ s⟩

/-- `CLEAR_IRQ` where `Resolve` gives nothing. -/
theorem exec_clearIrq_of_nothing {s s' : State} {card pin : Byte} (h : resolve card pin s = (.nothing, s')) :
    exec (.clearIrq card pin) s = .next (after s' s'.blk [] .none) := by
  simp only [exec, execClearIrq, h]
  exact complete_eq_after _ s'

/-- Without steering an unbound slot reports no line (42_interrupt_router.md R205). -/
theorem resolveNoSteer_of_unbound {i : Fin 32} {s : State} (h : s.blk.slots[i].dev = none) :
    resolveNoSteer i s = (.nothing, s) := by
  simp only [resolveNoSteer, noSteerIrq, h]
  rfl

section
variable {i : Fin 32} {s : State} {h : Handle} (hd : s.blk.slots[i].dev = some h)
include hd

/-- Without steering a bound card that reports a number above 15 drives no line. -/
theorem resolveNoSteer_of_disabled (ha : 15 < (answerAt s 0 h 0 0x3C).toNat) :
    resolveNoSteer i s = (.nothing, (devRead h 0 0x3C s).2) := by
  have line : irqLine (devRead h 0 0x3C s).1 = none := irqLine_eq_none ha
  simp only [resolveNoSteer, noSteerIrq, hd, line]

/-- Without steering a bound card drives the line it reports (42_interrupt_router.md R205). -/
theorem resolveNoSteer_of_line {q : Fin 16} (ha : (answerAt s 0 h 0 0x3C).toNat = q.val) :
    resolveNoSteer i s =
      (.line q (noSteerLevel q (devRead h 0 0x3C s).2).1, (noSteerLevel q (devRead h 0 0x3C s).2).2) := by
  have line : irqLine (devRead h 0 0x3C s).1 = some q := (irqLine_eq_some _ q).2 ha
  simp only [resolveNoSteer, noSteerIrq, hd, line]

end

/-- The clear algorithm on an edge line (42_interrupt_router.md R207). -/
theorem complete_releaseLine_edge (q : Fin 16) (bit : HoldMask) (s : State) :
    complete .none (releaseLine q false bit s) = .next (after s s.blk [.picClear q] .none) := rfl

/-- The clear algorithm on a level line the source does not hold (42_interrupt_router.md R207). -/
theorem complete_releaseLine_of_not_held {q : Fin 16} {k : Nat} (hk : k < 64) {s : State}
    (free : s.blk.hold[q].getLsbD k = false) :
    complete .none (releaseLine q true (bit64 k) s) = .next (after s s.blk [] .none) := by
  rw [releaseLine, if_pos rfl, if_pos ((and_bit64_eq_zero _ k hk).2 free), complete_eq_after]

/-- The assert algorithm on a level line the source holds already (42_interrupt_router.md R206). -/
theorem complete_assertLine_of_held {q : Fin 16} {k : Nat} {s : State} (held : s.blk.hold[q].getLsbD k = true) :
    complete .none (assertLine q true (bit64 k) s) = .next (after s s.blk [] .none) := by
  rw [complete_assertLine_level q (BitVec.lt_of_getLsbD held), or_bit64_of_held held, if_neg (ne_zero_of_held held),
    setHold_self]

section
variable {s : State} {mirq : Byte} {level : Bool} (hi : s.blk.initialised = true)
include hi

/-- A mirror IRQ above 2 is refused (30_encoding.md R108). -/
theorem exec_setMirq_refuses (h : 2 < mirq.toNat) :
    exec (.setMirq mirq level) s = .next (after s s.blk [] .none) := by
  simp only [exec, execSetMirq, hi, if_true, mirqIndex_eq_none h]
  exact refuse_eq_after s

theorem exec_clearMirq_refuses (h : 2 < mirq.toNat) :
    exec (.clearMirq mirq level) s = .next (after s s.blk [] .none) := by
  simp only [exec, execClearMirq, hi, if_true, mirqIndex_eq_none h]
  exact refuse_eq_after s

variable {m : Fin 3} (hm : mirq.toNat = m.val)
include hm

/-- A mirror IRQ that drives no line does nothing (42_interrupt_router.md R210). -/
theorem exec_setMirq_of_none (hq : mirqLine m s.blk = none) :
    exec (.setMirq mirq level) s = .next (after s s.blk [] .none) := by
  simp only [exec, execSetMirq, hi, if_true, mirqIndex_eq_some hm, hq]
  exact complete_eq_after _ s

theorem exec_clearMirq_of_none (hq : mirqLine m s.blk = none) :
    exec (.clearMirq mirq level) s = .next (after s s.blk [] .none) := by
  simp only [exec, execClearMirq, hi, if_true, mirqIndex_eq_some hm, hq]
  exact complete_eq_after _ s

/-- `SET_MIRQ` on a line: the assert algorithm with hold bit 30 + m (42_interrupt_router.md R210). -/
theorem exec_setMirq_of_line {q : Fin 16} (hq : mirqLine m s.blk = some q) :
    exec (.setMirq mirq level) s = complete .none (assertLine q level (bit64 (30 + m.val)) s) := by
  simp only [exec, execSetMirq, hi, if_true, mirqIndex_eq_some hm, hq, mirqBit]

/-- `CLEAR_MIRQ` on a line: the clear algorithm with hold bit 30 + m (42_interrupt_router.md R211). -/
theorem exec_clearMirq_of_line {q : Fin 16} (hq : mirqLine m s.blk = some q) :
    exec (.clearMirq mirq level) s = complete .none (releaseLine q level (bit64 (30 + m.val)) s) := by
  simp only [exec, execClearMirq, hi, if_true, mirqIndex_eq_some hm, hq, mirqBit]

end

/-- A mirror IRQ that is not enabled, or routed above 15, drives no line (42_interrupt_router.md R210). -/
theorem mirqLine_eq_none {m : Fin 3} {b : Block} (h : b.mirq[m].enabled = false ∨ 15 < b.mirq[m].irq.toNat) :
    mirqLine m b = none := by
  unfold mirqLine
  split
  next hen => exact irqLine_eq_none (h.resolve_left (by simpa using hen))
  · rfl

/-- An enabled mirror IRQ drives the line of its number (42_interrupt_router.md R210). -/
theorem mirqLine_eq_some {m : Fin 3} {b : Block} {q : Fin 16} (hen : b.mirq[m].enabled = true)
    (hq : b.mirq[m].irq.toNat = q.val) : mirqLine m b = some q := by
  rw [mirqLine, if_pos hen, (irqLine_eq_some _ q).2 hq]

end Sys2Proof.Machine
end

section
/-! The statements of the interrupt router's tables, of what does not resolve, of the no-steering mode, and of the
clear and the mirror operations. -/

namespace Sys2Proof.Machine

open Sys2Proof

/-- Settles O51: the operand's number is the entry's, or it is refused. -/
theorem routingEntriesAreWritten : Obligations.RoutingEntriesAreWritten := by
  unfold Obligations.RoutingEntriesAreWritten
  refine fun s pciInt irq level hi => ⟨fun k hk => ?_, fun h => ?_⟩
  · have entry := (intIndex_eq_some pciInt k).2 hk
    constructor
    · rw [exec, execSetIrqRouting, if_pos hi, entry]
      exact complete_withBlock _ _ s
    · rw [exec, execSetIrqLevel, if_pos hi, entry]
      exact complete_withBlock _ _ s
  · simp only [exec, execSetIrqRouting, execSetIrqLevel, hi, if_true, intIndex_eq_none pciInt h]
    exact ⟨refuse_eq_after s, refuse_eq_after s⟩

/-- Settles O52: the operand's number is the entry's, or it is refused. -/
theorem mirrorEntriesAreWritten : Obligations.MirrorEntriesAreWritten := by
  unfold Obligations.MirrorEntriesAreWritten
  refine fun s mirq irq hi => ⟨fun m hm => ?_, fun h => ?_⟩
  · constructor
    · rw [exec, execEnableMirq, if_pos hi, mirqIndex_eq_some hm]
      exact complete_withBlock _ _ s
    · rw [exec, execSetMirqRouting, if_pos hi, mirqIndex_eq_some hm]
      exact complete_withBlock _ _ s
  · simp only [exec, execEnableMirq, execSetMirqRouting, hi, if_true, mirqIndex_eq_none h]
    exact ⟨refuse_eq_after s, refuse_eq_after s⟩

/-- Settles O54: each of the first cases breaks a step of the wiring; in steering mode a wired pin resolves by its
entry of the routing table. -/
theorem unroutedInterruptsDoNothing : Obligations.UnroutedInterruptsDoNothing := by
  unfold Obligations.UnroutedInterruptsDoNothing
  refine ⟨fun s card pin _ h => (unresolved_of_not_wired fun i r hw => ?_).exec, fun s card pin _ hst h => ?_⟩
  · obtain ⟨-, k, d, hk, hd, hi, hr⟩ := hw
    obtain h | h | h | ⟨d', hd', h⟩ | ⟨d', i', k', hd', hk', hi', h⟩ := h
    · omega
    · omega
    · omega
    · obtain rfl : d = d' := Fin.ext (by omega)
      rw [h] at hi; cases hi
    · obtain rfl : d = d' := Fin.ext (by omega)
      obtain rfl : k = k' := Fin.ext (by omega)
      obtain rfl : i' = i := Option.some.inj (hi'.symm.trans hi)
      rw [h] at hr; cases hr
  · by_cases hw : ∃ i r, WiredTo s.blk card pin i r
    · obtain ⟨i, r, hw⟩ := hw
      refine Unresolved.exec (.inr ?_)
      rw [resolve_of_wiredTo hw, hst, if_neg Bool.false_ne_true]
      have noline (q : Fin 16) (level : Bool) :
          lineOrNothing s.blk.irqRoute[r].irq s.blk.irqRoute[r].level ≠ .line q level :=
        fun hl => h q level ((steersTo_iff s.blk card pin q level).2 ⟨hst, i, r, hw, hl⟩)
      rw [lineOrNothing] at noline ⊢
      cases hq : irqLine s.blk.irqRoute[r].irq with
      | none => rfl
      | some q => rw [hq] at noline; exact absurd rfl (noline q _)
    · exact (unresolved_of_not_wired fun i r h => hw ⟨i, r, h⟩).exec

/-- Settles O55: the wired pin asks its slot's card, whose answer names the line. -/
theorem noSteeringAsksTheCard : Obligations.NoSteeringAsksTheCard := by
  unfold Obligations.NoSteeringAsksTheCard
  intro s card pin k r d i hinit hst hk hd hi hr
  have hres : resolve card pin s = resolveNoSteer i s := by
    rw [resolve_of_wiredTo ⟨hinit, k, d, hk, hd, hi, hr⟩, if_pos hst]
  rw [hres]
  refine ⟨resolveNoSteer_of_unbound, fun h hdev => ⟨(devRead h 0 0x3C s).2, rfl, resolveNoSteer_of_disabled hdev, ?_⟩⟩
  refine fun q ha => ⟨fun hp => ?_, fun hp => ?_⟩
  · rw [resolveNoSteer_of_line hdev ha, noSteerLevel, devRead_params, hp]
  · rw [resolveNoSteer_of_line hdev ha, noSteerLevel, devRead_params, hp]

/-- Settles O57: the new mask is the old one without the card's bit; the cases are those of the clear algorithm. -/
theorem cardClears : Obligations.CardClears := by
  unfold Obligations.CardClears
  refine fun s s' card pin => ⟨exec_clearIrq_of_nothing, fun q level h => ?_⟩
  have hc := card_lt_of_resolve h
  rw [exec_clearIrq_of_line h]
  refine ⟨_, getLsbD_and_not_bit64 s'.blk.hold[q] card.toNat, ?_, ?_, ?_⟩
  · rintro rfl
    exact complete_releaseLine_edge q _ s'
  · rintro rfl free
    exact complete_releaseLine_of_not_held (by omega) free
  · rintro rfl held
    exact complete_releaseLine_level held

/-- Settles O58: the assert algorithm with the mirror's hold bit, where the mirror IRQ drives a line. -/
theorem mirrorAsserts : Obligations.MirrorAsserts := by
  unfold Obligations.MirrorAsserts
  refine fun s mirq level hi => ⟨exec_setMirq_refuses hi, fun n hn =>
    ⟨fun h => exec_setMirq_of_none hi hn (mirqLine_eq_none h), fun q hen hq => ?_⟩⟩
  have hk : 30 + n.val < 64 := by omega
  rw [exec_setMirq_of_line hi hn (mirqLine_eq_some hen hq)]
  refine ⟨_, getLsbD_or_bit64 s.blk.hold[q] hk, ?_, ?_, ?_⟩
  · rintro rfl
    exact complete_assertLine_edge q _ s
  · rintro rfl held
    exact complete_assertLine_of_held held
  · rintro rfl -
    exact complete_assertLine_level q hk s

/-- Settles O59: the clear algorithm with the mirror's hold bit, where the mirror IRQ drives a line. -/
theorem mirrorClears : Obligations.MirrorClears := by
  unfold Obligations.MirrorClears
  refine fun s mirq level hi => ⟨exec_clearMirq_refuses hi, fun n hn =>
    ⟨fun h => exec_clearMirq_of_none hi hn (mirqLine_eq_none h), fun q hen hq => ?_⟩⟩
  rw [exec_clearMirq_of_line hi hn (mirqLine_eq_some hen hq)]
  refine ⟨_, getLsbD_and_not_bit64 s.blk.hold[q] (30 + n.val), ?_, ?_, ?_⟩
  · rintro rfl
    exact complete_releaseLine_edge q _ s
  · rintro rfl free
    exact complete_releaseLine_of_not_held (by omega) free
  · rintro rfl held
    exact complete_releaseLine_level held

end Sys2Proof.Machine
end
